-- ==== Sys2Proof/Word.lean ====
section
/-! DEFINITION. The bytes and 16-bit words of the block (rules R12, R13). -/

namespace Sys2Proof

/-- A byte is 8 bits with a value 0..255 (R12). -/
abbrev Byte := BitVec 8

/-- A 16-bit header field or checksum (R12, R59). -/
abbrev Word := BitVec 16

/-- A finite byte sequence, index 0 the first byte on the wire (R13). -/
abbrev Bytes := List Byte

/-- `Result<T, E>` is either `Ok(t)` or `Err(e)` (R15). -/
inductive Result (τ ε : Type) where
  | ok (t : τ)
  | err (e : ε)
  deriving DecidableEq, Repr

end Sys2Proof
end

