-- ==== Sys2Proof/Syntax.lean ====
section
/-! DEFINITION. The operations of the block as syntax: one constructor per row of
`spec/opcode_table.json` (rules R95, R99, R100), the operand ports of R34, and the
form in which an operation is issued. -/

namespace Sys2Proof

/-- The action bound as the `onFire` callback (R25). -/
inductive OnFire where
  | ReadCycle
  | HostStrobe
  deriving DecidableEq, Repr

/-- Who issues an operation: the column "issuer" of the table in R95. -/
inductive Issuer where
  | host
  | timer
  | transport
  | clock
  deriving DecidableEq, Repr

/-- The named operand ports (R34). Integer ports are unbounded integers (decision D3). -/
structure Ports where
  opA : Int
  opR : Int
  opV : Int
  opBuf : Bytes
  opInterval : Int
  opOnfire : OnFire
  deriving DecidableEq, Repr

/-- An operation or a frame as it is given to the block, before it is decoded.
R95 gives the operations a 4-bit command select, R34 their operand ports; the frames of
R81 to R84 are byte sequences told apart by direction (`opcode_table.json`, the note of
FRAME.READ_REQ). The pseudo-operation CRC.APPEND has no select (R99, R100) and stands on
a lane of its own. DESIGN CHOICE (log 4, log 7): the spec fixes the select, the ports and the
frames' bytes, and no container for them. -/
inductive OpWord where
  | cmd (sel : BitVec 4) (ports : Ports)
  | append (ports : Ports)
  | txFrame (bytes : Bytes)
  | rxFrame (bytes : Bytes)
  deriving DecidableEq, Repr

/-- The instructions: the 4 frame layouts, the 14 operations and the pseudo-operation. -/
inductive Instr where
  /-- FRAME.READ_REQ, layout R81: device address, register address, word count, checksum. -/
  | frameReadReq (a : Byte) (r n c : Word)
  /-- FRAME.WRITE_REQ, layout R82: device address, register address, value, checksum. -/
  | frameWriteReq (a : Byte) (r v c : Word)
  /-- FRAME.READ_RSP, layout R83: device address, payload (its length is the byte count), checksum. -/
  | frameReadRsp (a : Byte) (payload : Bytes) (c : Word)
  /-- FRAME.WRITE_RSP, layout R84: device address, echoed register address and value, checksum. -/
  | frameWriteRsp (a : Byte) (r v c : Word)
  /-- CRC.COMPUTE, select 0x0 (R120). -/
  | crcCompute (buf : Bytes)
  /-- CRC.VERIFY, select 0x1 (R123). -/
  | crcVerify (buf : Bytes)
  /-- ENC.READ, select 0x2 (R140): OP_A, OP_R, OP_V. -/
  | encRead (a r n : Int)
  /-- ENC.WRITE, select 0x3 (R141): OP_A, OP_R, OP_V. -/
  | encWrite (a r v : Int)
  /-- DEC.PARSE, select 0x4 (R160). -/
  | decParse (buf : Bytes)
  /-- PS.START, select 0x5 (R201): OP_INTERVAL, OP_ONFIRE. -/
  | psStart (interval : Int) (onfire : OnFire)
  /-- PS.FIRE, select 0x6 (R206). -/
  | psFire
  /-- PS.STOP, select 0x7 (R208). -/
  | psStop
  /-- DSP.READY, select 0x8 (R231). -/
  | dspReady
  /-- DSP.READCYCLE, select 0x9 (R233). -/
  | dspReadcycle
  /-- DSP.NOTIFY, select 0xA (R234). -/
  | dspNotify (buf : Bytes)
  /-- DSP.SETLOAD, select 0xB (R235): OP_V. -/
  | dspSetload (v : Int)
  /-- DSP.DISCONNECT, select 0xC (R236). -/
  | dspDisconnect
  /-- TICK, select 0xD (R204). -/
  | tick
  /-- CRC.APPEND, pseudo-operation without a select (R99, R125). -/
  | crcAppend (buf : Bytes)
  deriving DecidableEq, Repr

end Sys2Proof
end

