-- ==== Sys2Proof/Config.lean ====
section
/-! DEFINITION. The implementation parameters (rules R6 to R11): protocol constants, the
configuration a model takes as an argument, and the free values, which are opaque. -/

namespace Sys2Proof

namespace Config

/-- The operation code of a read (R6, R85). -/
def opRead : Byte := 3

/-- The operation code of a write (R6, R85). -/
def opWrite : Byte := 6

/-- `MIN_FRAME_LEN` (R9, R161; decision D14). -/
def minFrameLen : Nat := 5

/-- `WRITE_RSP_LEN` (R6, R84). -/
def writeRspLen : Nat := 8

end Config

/-- The 21 telemetry fields, by the names and in the order of R37 and R92. -/
inductive FieldName where
  | battery_percentage
  | battery_voltage
  | battery_current
  | controller_temperature
  | battery_temperature
  | load_status
  | load_voltage
  | load_current
  | load_power
  | pv_voltage
  | pv_current
  | pv_power
  | max_charging_power_today
  | max_discharging_power_today
  | charging_amp_hours_today
  | discharging_amp_hours_today
  | power_generation_today
  | power_consumption_today
  | power_consumption_total
  | power_generation_total
  | charging_status
  deriving DecidableEq, Repr

/-- All field names in the order of R92. -/
def FieldName.all : List FieldName :=
  [.battery_percentage, .battery_voltage, .battery_current,
   .controller_temperature, .battery_temperature, .load_status,
   .load_voltage, .load_current, .load_power,
   .pv_voltage, .pv_current, .pv_power,
   .max_charging_power_today, .max_discharging_power_today, .charging_amp_hours_today,
   .discharging_amp_hours_today, .power_generation_today, .power_consumption_today,
   .power_consumption_total, .power_generation_total, .charging_status]

/-- The key of a field in the object handed to the sink (R92, R238). -/
def FieldName.key : FieldName → String
  | .battery_percentage => "battery_percentage"
  | .battery_voltage => "battery_voltage"
  | .battery_current => "battery_current"
  | .controller_temperature => "controller_temperature"
  | .battery_temperature => "battery_temperature"
  | .load_status => "load_status"
  | .load_voltage => "load_voltage"
  | .load_current => "load_current"
  | .load_power => "load_power"
  | .pv_voltage => "pv_voltage"
  | .pv_current => "pv_current"
  | .pv_power => "pv_power"
  | .max_charging_power_today => "max_charging_power_today"
  | .max_discharging_power_today => "max_discharging_power_today"
  | .charging_amp_hours_today => "charging_amp_hours_today"
  | .discharging_amp_hours_today => "discharging_amp_hours_today"
  | .power_generation_today => "power_generation_today"
  | .power_consumption_today => "power_consumption_today"
  | .power_consumption_total => "power_consumption_total"
  | .power_generation_total => "power_generation_total"
  | .charging_status => "charging_status"

/-- One value of type `α` for each of the 21 field names: exactly one entry per name
(R37 for records; R93 (a) for the field table). -/
structure PerField (α : Type) where
  battery_percentage : α
  battery_voltage : α
  battery_current : α
  controller_temperature : α
  battery_temperature : α
  load_status : α
  load_voltage : α
  load_current : α
  load_power : α
  pv_voltage : α
  pv_current : α
  pv_power : α
  max_charging_power_today : α
  max_discharging_power_today : α
  charging_amp_hours_today : α
  discharging_amp_hours_today : α
  power_generation_today : α
  power_consumption_today : α
  power_consumption_total : α
  power_generation_total : α
  charging_status : α
  deriving DecidableEq, Repr

/-- The value stored for a field name. -/
def PerField.get {α : Type} (p : PerField α) : FieldName → α
  | .battery_percentage => p.battery_percentage
  | .battery_voltage => p.battery_voltage
  | .battery_current => p.battery_current
  | .controller_temperature => p.controller_temperature
  | .battery_temperature => p.battery_temperature
  | .load_status => p.load_status
  | .load_voltage => p.load_voltage
  | .load_current => p.load_current
  | .load_power => p.load_power
  | .pv_voltage => p.pv_voltage
  | .pv_current => p.pv_current
  | .pv_power => p.pv_power
  | .max_charging_power_today => p.max_charging_power_today
  | .max_discharging_power_today => p.max_discharging_power_today
  | .charging_amp_hours_today => p.charging_amp_hours_today
  | .discharging_amp_hours_today => p.discharging_amp_hours_today
  | .power_generation_today => p.power_generation_today
  | .power_consumption_today => p.power_consumption_today
  | .power_consumption_total => p.power_consumption_total
  | .power_generation_total => p.power_generation_total
  | .charging_status => p.charging_status

/-- The record that holds `f name` for every field name. -/
def PerField.ofFn {α : Type} (f : FieldName → α) : PerField α where
  battery_percentage := f .battery_percentage
  battery_voltage := f .battery_voltage
  battery_current := f .battery_current
  controller_temperature := f .controller_temperature
  battery_temperature := f .battery_temperature
  load_status := f .load_status
  load_voltage := f .load_voltage
  load_current := f .load_current
  load_power := f .load_power
  pv_voltage := f .pv_voltage
  pv_current := f .pv_current
  pv_power := f .pv_power
  max_charging_power_today := f .max_charging_power_today
  max_discharging_power_today := f .max_discharging_power_today
  charging_amp_hours_today := f .charging_amp_hours_today
  discharging_amp_hours_today := f .discharging_amp_hours_today
  power_generation_today := f .power_generation_today
  power_consumption_today := f .power_consumption_today
  power_consumption_total := f .power_consumption_total
  power_generation_total := f .power_generation_total
  charging_status := f .charging_status

/-- `f` applied to each of the 21 values. -/
def PerField.map {α β : Type} (f : α → β) (p : PerField α) : PerField β :=
  .ofFn fun name => f (p.get name)

/-- The 21 values in the order of R92. -/
def PerField.toList {α : Type} (p : PerField α) : List α :=
  FieldName.all.map p.get

/-- One entry of `FIELD_TABLE` (R91): byte offset within the payload, width in bytes, exact
rational scale, signedness flag. An entry carries R93 (b) and its share of R93 (c), so a
malformed one cannot be built; `loadFieldTable` is where a raw table is refused. -/
structure FieldEntry where
  offset : Nat
  width : Nat
  scale : Rat
  signed : Bool
  width_pos : 1 ≤ width
  span_le : offset + width ≤ 255
  deriving DecidableEq, Repr

/-- `FIELD_TABLE`: one entry per field name (R91, R93). -/
abbrev FieldTable := PerField FieldEntry

/-- `SIGN_REPR`, the representation of a signed field (R9, R167; decision D12). -/
inductive SignRepr where
  | twos_complement
  | sign_magnitude
  deriving DecidableEq, Repr, Inhabited

/-- The transport's answer to a `TX.WRITE` (R237; decision D35). -/
inductive TxAnswer where
  | ok
  | fail
  deriving DecidableEq, Repr, Inhabited

/-- The configuration (R6 to R10), fixed before the block leaves reset (R71, R312). The ranges
of R241 and R8 are carried by the types and proofs of the fields. -/
structure Config where
  /-- `DEVICE_ADDRESS` (R7). -/
  deviceAddress : Byte
  /-- `LOAD_REGISTER` (R7). -/
  loadRegister : Word
  /-- `READ_REGISTER`, OPEN (R7). -/
  readRegister : Word
  /-- `READ_WORDCOUNT`, OPEN (R7). -/
  readWordcount : Word
  /-- `POLL_INTERVAL` in seconds, OPEN (R8). -/
  pollInterval : Nat
  /-- `TICKS_PER_SECOND`, OPEN, default 1 (R8). -/
  ticksPerSecond : Nat
  /-- `FIELD_TABLE`, OPEN (R9). -/
  fieldTable : FieldTable
  /-- `SIGN_REPR`, OPEN, default `twos_complement` (R9). -/
  signRepr : SignRepr
  pollInterval_pos : 1 ≤ pollInterval
  ticksPerSecond_pos : 1 ≤ ticksPerSecond
  deriving DecidableEq, Repr

namespace Config

/-- `TICKS_PER_SECOND` where none is given: "default 1" (R8; decision D10). -/
def defaultTicksPerSecond : Nat := 1

/-- `SIGN_REPR` where none is given: "`twos_complement` (default)" (R9; decision D12). -/
def defaultSignRepr : SignRepr := .twos_complement

/-! The free values. The spec leaves these OPEN without a default (R7 to R9) or gives them to the transport
(R237); an opaque constant has no value a proof could use (log 3, log 5). -/

/-- The value of `READ_REGISTER` in the reset state: free (R7, log 3). -/
opaque openReadRegister : Word

/-- The value of `READ_WORDCOUNT` in the reset state: free (R7, log 3). -/
opaque openReadWordcount : Word

/-- `POLL_INTERVAL` less 1 in the reset state: free (R8, log 3). -/
opaque openPollIntervalLessOne : Nat

/-- The offsets of `FIELD_TABLE` in the reset state, taken modulo 255: free (R9, log 3). -/
opaque openFieldOffset : FieldName → Nat

/-- The widths of `FIELD_TABLE` less 1 in the reset state, taken modulo the room left after the
offset: free (R9, log 3). -/
opaque openFieldWidthLessOne : FieldName → Nat

/-- The scales of `FIELD_TABLE` in the reset state: free (R9, log 3). -/
opaque openFieldScale : FieldName → Rat

/-- The signedness flags of `FIELD_TABLE` in the reset state: free (R9, log 3). -/
opaque openFieldSigned : FieldName → Bool

/-- The transport's answer that stands on the port before any operation is issued: free
(R237, log 5). -/
opaque openTxAnswer : TxAnswer

/-- One entry of the free field table. Every well-formed entry (R93) is a value it may have:
`offset` ranges over 0..254 and `width` over 1..255 - `offset`. -/
def openFieldEntry (name : FieldName) : FieldEntry where
  offset := openFieldOffset name % 255
  width := openFieldWidthLessOne name % (255 - openFieldOffset name % 255) + 1
  scale := openFieldScale name
  signed := openFieldSigned name
  width_pos := by omega
  span_le := by
    have h1 : openFieldOffset name % 255 < 255 := Nat.mod_lt _ (by omega)
    have h2 := Nat.mod_lt (openFieldWidthLessOne name)
      (show 255 - openFieldOffset name % 255 > 0 by omega)
    omega

/-- The configuration of the reset state: the values R7 takes (255 and 266), the defaults of R8 and
R9, and a free value for every OPEN parameter that has no default (log 3). -/
def boot : Config where
  deviceAddress := 255
  loadRegister := 266
  readRegister := openReadRegister
  readWordcount := openReadWordcount
  pollInterval := openPollIntervalLessOne + 1
  ticksPerSecond := defaultTicksPerSecond
  fieldTable := .ofFn openFieldEntry
  signRepr := defaultSignRepr
  pollInterval_pos := by omega
  ticksPerSecond_pos := Nat.le_refl 1

end Config

end Sys2Proof
end

