-- ==== Sys2Proof/Machine/Operands.lean ====
section
/-! DEFINITION. Operand ranges, byte order, frame access and field decoding: the notation of
rules R12 to R14 and R54 to R59 as functions. -/

namespace Sys2Proof.Machine

/-- `0 <= i <= 255`: the range of `OP_A` (R140, R143). -/
def fitsByte (i : Int) : Bool := decide (0 ≤ i) && decide (i ≤ 255)

/-- `0 <= i <= 65535`: the range of `OP_R` and `OP_V` (R140, R142, R143). -/
def fitsWord (i : Int) : Bool := decide (0 ≤ i) && decide (i ≤ 65535)

/-- Bits 15 down to 8, `v[15:8]` (R12). -/
def hiByte (v : Word) : Byte := v.extractLsb' 8 8

/-- Bits 7 down to 0, `v[7:0]` (R12). -/
def loByte (v : Word) : Byte := v.extractLsb' 0 8

/-- `be16(v)`: most significant byte first, every integer field on the wire (R13, R54). -/
def be16 (v : Word) : Bytes := [hiByte v, loByte v]

/-- `le16(v)`: least significant byte first, the checksum only (R13, R55). -/
def le16 (v : Word) : Bytes := [loByte v, hiByte v]

/-- The 16-bit value of two bytes, the first the more significant (R86). -/
def wordOf (hi lo : Byte) : Word := hi ++ lo

/-- `ule16(b0, b1) = b0 + 256 * b1` (R13, R87). -/
def ule16 (b0 b1 : Byte) : Word := wordOf b1 b0

/-- `ube(X)`, the unsigned big-endian value of a byte sequence (R13). -/
def ube (X : Bytes) : Nat := X.foldl (fun acc b => 256 * acc + b.toNat) 0

/-- `B[i]`. Every operation's use is at an index below `len(B)` (R56). Past the end it is 0: DESIGN
CHOICE (log 16). -/
def byteAt (B : Bytes) (i : Nat) : Byte := B.getD i 0

/-- `B[i..j)`, empty when `i >= j` (R13). What lies past the end is left out: DESIGN CHOICE
(log 16). -/
def slice (B : Bytes) (i j : Nat) : Bytes := (B.drop i).take (j - i)

/-- `MemRead(addr, n)` on an RX frame, defined only when `1 <= n` and `addr + n <= len(B)` (R56).
Outside that bound it is the value of the bytes that remain, 0 for none: DESIGN CHOICE (log 16). -/
def memRead (B : Bytes) (addr n : Nat) : Nat := ube (slice B addr (addr + n))

/-- The `n`-byte big-endian form of `v` (R57). -/
def beBytes : Nat → Nat → Bytes
  | 0, _ => []
  | n + 1, v => beBytes n (v / 256) ++ [BitVec.ofNat 8 v]

/-- `MemWrite(addr, n, v)` on the TX frame under construction, for `0 <= v < 2^(8n)` (R57). Outside
that range only the low `n` bytes of `v` are written, and a write that starts or ends past the frame
lengthens it: DESIGN CHOICE (log 16). -/
def memWrite (F : Bytes) (addr n v : Nat) : Bytes :=
  F.take addr ++ beBytes n v ++ F.drop (addr + n)

/-- `signed_decode(width, raw)` (R167): two's complement (`sext_N` of R14) or sign and magnitude,
`N = 8 * width`. -/
def signedDecode (repr : SignRepr) (width raw : Nat) : Int :=
  let half := 2 ^ (8 * width - 1)
  if raw < half then (raw : Int)
  else match repr with
    | .twos_complement => (raw : Int) - (2 ^ (8 * width) : Nat)
    | .sign_magnitude => -((raw : Int) - (half : Nat))

/-- The integer of one telemetry field: `raw`, or `signed_decode` of it (R88, R166). -/
def fieldInt (repr : SignRepr) (e : FieldEntry) (B : Bytes) : Int :=
  let raw := memRead B (3 + e.offset) e.width
  if e.signed then signedDecode repr e.width raw else (raw : Int)

/-- The value of one telemetry field, `scale * int`, exact (R88, R166, R168). -/
def fieldValue (repr : SignRepr) (e : FieldEntry) (B : Bytes) : Rat :=
  e.scale * (fieldInt repr e B : Rat)

/-- `TABLE_SPAN = max over entries of (offset + width)` (R93 (c)). -/
def tableSpan (t : FieldTable) : Nat :=
  (t.toList.map fun e => e.offset + e.width).foldl max 0

end Sys2Proof.Machine
end

