-- ==== Sys2Proof/Machine/Crc.lean ====
section
/-! DEFINITION. The Checksum unit's functions, CRC-16/MODBUS (rules R120 to R125, R130). The
parameters are those of R121, which the spec marks as general knowledge (log 14). -/

namespace Sys2Proof.Machine

/-- One shift step of R122: `crc >> 1`, with `0xA001` xored in when bit 0 was 1. -/
def crcBit (crc : Word) : Word :=
  if crc.getLsbD 0 then (crc >>> 1) ^^^ 0xA001#16 else crc >>> 1

/-- The inner loop of R122: the shift step eight times. -/
def crcShift8 (crc : Word) : Word :=
  crcBit (crcBit (crcBit (crcBit (crcBit (crcBit (crcBit (crcBit crc)))))))

/-- One byte of R122: the byte is xored into the low byte, then eight shift steps. -/
def crcByte (crc : Word) (b : Byte) : Word := crcShift8 (crc ^^^ b.zeroExtend 16)

/-- The register run over `X` from `crc`. -/
def crcFrom (crc : Word) (X : Bytes) : Word := X.foldl crcByte crc

/-- CRC.COMPUTE (R120, R122): the register starts at `0xFFFF`. -/
def crcOf (X : Bytes) : Word := crcFrom 0xFFFF#16 X

/-- CRC.APPEND (R125): `X ++ le16(CRC.COMPUTE(X))`. -/
def crcAppended (X : Bytes) : Bytes := X ++ le16 (crcOf X)

/-- The checksum field of a frame, `B[L-2] + 256 * B[L-1]` (R87). -/
def storedCrc (B : Bytes) : Word := ule16 (byteAt B (B.length - 2)) (byteAt B (B.length - 1))

/-- CRC.VERIFY (R123); false for fewer than two bytes (R124, decision D17). -/
def crcVerifies (B : Bytes) : Bool :=
  if B.length < 2 then false
  else crcOf (B.take (B.length - 2)) == storedCrc B

/-- Entry `T[b]` of the 256-entry table of R122: the inner loop applied to the 16-bit value `b`. -/
def crcTable : List Word := (List.range 256).map fun b => crcShift8 (BitVec.ofNat 16 b)

/-- The byte-wise step of R122: `(crc >> 8) ^ T[(crc ^ byte) & 0xFF]`. -/
def crcByteByTable (crc : Word) (b : Byte) : Word :=
  (crc >>> 8) ^^^ crcTable.getD ((crc ^^^ b.zeroExtend 16) &&& 0xFF#16).toNat 0

/-- CRC.COMPUTE in the byte-wise form of R122. -/
def crcOfByTable (X : Bytes) : Word := X.foldl crcByteByTable 0xFFFF#16

end Sys2Proof.Machine
end

