-- ==== Sys2Proof/Machine/Frames.lean ====
section
/-! DEFINITION. The four frame layouts as byte sequences (rules R80 to R84). -/

namespace Sys2Proof.Machine

/-- Bytes 0..5 of READ_REQ, WRITE_REQ and WRITE_RSP: address, operation code, two big-endian
fields (R81, R82, R84). -/
def header6 (op a : Byte) (r v : Word) : Bytes := [a, op] ++ be16 r ++ be16 v

/-- An 8-byte frame with checksum field `c` (R81, R82, R84, R87). -/
def frame8 (op a : Byte) (r v c : Word) : Bytes := header6 op a r v ++ le16 c

/-- The checksum the layouts R81, R82 and R84 call for: `CRC.COMPUTE(bytes 0..5)`. -/
def header6Crc (op a : Byte) (r v : Word) : Word := crcOf (header6 op a r v)

/-- Bytes `0 .. 2+b` of READ_RSP: address, `0x03`, byte count, payload (R83). -/
def readRspBody (a : Byte) (payload : Bytes) : Bytes :=
  [a, Config.opRead, BitVec.ofNat 8 payload.length] ++ payload

/-- READ_RSP with checksum field `c` (R83, R87). -/
def readRspFrame (a : Byte) (payload : Bytes) (c : Word) : Bytes :=
  readRspBody a payload ++ le16 c

end Sys2Proof.Machine
end

