-- ==== Sys2Proof/Machine/Types.lean ====
section
/-! DEFINITION. The data types carried by state, results and outputs (rules R33, R37, R38,
R260, R270). -/

namespace Sys2Proof.Machine

/-- `TelemetryRecord`: 21 named fields, each one exact rational (R37, R168). -/
abbrev TelemetryRecord := PerField Rat

/-- `WriteAck` (R38). -/
structure WriteAck where
  registerAddress : Word
  value : Word
  deriving DecidableEq, Repr

/-- What a successful DEC.PARSE yields: `TelemetryRecord | WriteAck` (R15, R160). -/
inductive Decoded where
  | telemetry (t : TelemetryRecord)
  | writeAck (w : WriteAck)
  deriving DecidableEq, Repr

/-- `ProtocolError` (R38, R261 to R264). -/
inductive ProtocolError where
  | truncated
  | checksumMismatch
  | lengthMismatch
  | unknownOperation (code : Byte)
  deriving DecidableEq, Repr

/-- `EncodeError` (R38, R265). -/
inductive EncodeError where
  | invalidArgument
  deriving DecidableEq, Repr

/-- `TransportError` (R38, R266). -/
inductive TransportError where
  | transportWriteFailed
  deriving DecidableEq, Repr

/-- The six error kinds of R260, grouped by the three error types of R38. -/
inductive ErrorKind where
  | protocol (e : ProtocolError)
  | encode (e : EncodeError)
  | transport (e : TransportError)
  deriving DecidableEq, Repr

/-- The severity of a log entry (R270; decision D29). -/
inductive Severity where
  | normal
  | low
  deriving DecidableEq, Repr

/-- An output on a port, one element of the output trace (R33, R237 to R239). -/
inductive Output where
  /-- `TX.WRITE(frame)`. -/
  | txWrite (frame : Bytes)
  /-- `SINK.CONNECTED`. -/
  | sinkConnected
  /-- `SINK.DATA(result)`. -/
  | sinkData (d : Decoded)
  /-- `LOG(severity, error)`. -/
  | log (sev : Severity) (e : ProtocolError)
  /-- `ERR(error)`. -/
  | err (e : TransportError)
  /-- `HOST.FIRE`. -/
  | hostFire
  deriving DecidableEq, Repr

/-- What an `Ok` on the result port carries (the result column of R95). -/
inductive OkValue where
  | unit
  | frame (bytes : Bytes)
  | decoded (d : Decoded)
  deriving DecidableEq, Repr

/-- The result port (R34; the result column of R95). -/
inductive OpResult where
  /-- The operation has no result; also the port before any operation (log 8). -/
  | none
  /-- CRC.COMPUTE's uint16. -/
  | uint16 (v : Word)
  /-- CRC.VERIFY's bool. -/
  | bool (b : Bool)
  /-- CRC.APPEND's bytes. -/
  | bytes (bs : Bytes)
  /-- `Ok(v)`. -/
  | ok (v : OkValue)
  /-- `Err(e)`: the operation raised `e` (R268). -/
  | err (e : ErrorKind)
  deriving DecidableEq, Repr

end Sys2Proof.Machine
end

