-- ==== Sys2Proof/Machine/Codec.lean ====
section
/-! DEFINITION. The pure functions of the FrameEncoder and the FrameDecoder (rules R140 to R146,
R160 to R174). -/

namespace Sys2Proof.Machine

/-- The 8 bytes of a request: six header bytes and the appended checksum (R81, R82, R125). -/
def requestFrame (op a : Byte) (r v : Word) : Bytes := crcAppended (header6 op a r v)

/-- ENC.READ and ENC.WRITE (R140, R141), which differ in the operation code only (R145): the range
checks of R142 and R143 before any byte is produced, then the frame. -/
def encodeRequest (op : Byte) (a r v : Int) : Result Bytes EncodeError :=
  if fitsByte a && fitsWord r && fitsWord v then
    .ok (requestFrame op (BitVec.ofInt 8 a) (BitVec.ofInt 16 r) (BitVec.ofInt 16 v))
  else .err .invalidArgument

/-- Field extraction (R166): one value for each of the 21 entries. -/
def extractRecord (cfg : Config) (B : Bytes) : TelemetryRecord :=
  cfg.fieldTable.map fun e => fieldValue cfg.signRepr e B

/-- The telemetry path of DEC.PARSE (R164, R165, R166). -/
def parseTelemetry (cfg : Config) (B : Bytes) : Result Decoded ProtocolError :=
  let bc := (byteAt B 2).toNat
  if bc ≠ B.length - 5 then .err .lengthMismatch
  else if bc < tableSpan cfg.fieldTable then .err .lengthMismatch
  else .ok (.telemetry (extractRecord cfg B))

/-- The acknowledgement path of DEC.PARSE (R169, R170). -/
def parseAck (B : Bytes) : Result Decoded ProtocolError :=
  if B.length < Config.writeRspLen then .err .truncated
  else if B.length > Config.writeRspLen then .err .lengthMismatch
  else .ok (.writeAck ⟨BitVec.ofNat 16 (memRead B 2 2), BitVec.ofNat 16 (memRead B 4 2)⟩)

/-- DEC.PARSE, the whole operation (R174): length, checksum, dispatch by operation code. -/
def parse (cfg : Config) (B : Bytes) : Result Decoded ProtocolError :=
  if B.length < Config.minFrameLen then .err .truncated
  else if !crcVerifies B then .err .checksumMismatch
  else if byteAt B 1 = Config.opRead then parseTelemetry cfg B
  else if byteAt B 1 = Config.opWrite then parseAck B
  else .err (.unknownOperation (byteAt B 1))

end Sys2Proof.Machine
end

