-- ==== Sys2Proof/WellFormed.lean ====
section
/-! DEFINITION. Which instructions are well formed: the constraints the spec's layouts and
operand lists put on the fields of an instruction. -/

namespace Sys2Proof

open Sys2Proof.Machine

/-- What the encoding can carry: a byte count has one byte, so a READ_RSP payload has at most 255
bytes (R83). Every other field fits its place by its type. -/
def Instr.encodable : Instr → Bool
  | .frameReadRsp _ payload _ => decide (payload.length ≤ 255)
  | .frameReadReq _ _ _ _ => true
  | .frameWriteReq _ _ _ _ => true
  | .frameWriteRsp _ _ _ _ => true
  | .crcCompute _ => true
  | .crcVerify _ => true
  | .encRead _ _ _ => true
  | .encWrite _ _ _ => true
  | .decParse _ => true
  | .psStart _ _ => true
  | .psFire => true
  | .psStop => true
  | .dspReady => true
  | .dspReadcycle => true
  | .dspNotify _ => true
  | .dspSetload _ => true
  | .dspDisconnect => true
  | .tick => true
  | .crcAppend _ => true

/-- Well-formed instructions. A transmitted request carries the checksum of its first six bytes
(R80 to R82; every frame the block sends verifies, R144); a READ_RSP fits its byte count (R83);
PS.START has an interval of at least 1 (R201, R203). A received frame may carry any checksum: CRC.VERIFY
decides about it (R162). An encoder operand out of range is well formed: it gives
InvalidArgument (R142). -/
def Instr.wellFormed : Instr → Bool
  | .frameReadReq a r n c => c == header6Crc Config.opRead a r n
  | .frameWriteReq a r v c => c == header6Crc Config.opWrite a r v
  | .frameReadRsp _ payload _ => decide (payload.length ≤ 255)
  | .frameWriteRsp _ _ _ _ => true
  | .crcCompute _ => true
  | .crcVerify _ => true
  | .encRead _ _ _ => true
  | .encWrite _ _ _ => true
  | .decParse _ => true
  | .psStart interval _ => decide (1 ≤ interval)
  | .psFire => true
  | .psStop => true
  | .dspReady => true
  | .dspReadcycle => true
  | .dspNotify _ => true
  | .dspSetload _ => true
  | .dspDisconnect => true
  | .tick => true
  | .crcAppend _ => true

end Sys2Proof
end

