-- ==== Sys2Proof/Decode.lean ====
section
/-! DEFINITION. From an issued operation or a frame's bytes to an instruction, by the command
selects of R95 and the layouts of R81 to R84, and back. -/

namespace Sys2Proof

open Sys2Proof.Machine

/-- Why an issued word is no instruction. -/
inductive DecodeError where
  /-- Command selects 0xE and 0xF (R96). -/
  | reservedSelect (sel : BitVec 4)
  /-- Bytes on the transmit side that have neither request layout (R81, R82, R145). -/
  | noRequestLayout
  deriving DecidableEq, Repr

/-- The operation of a command select, its operands taken from the ports R95 lists for it. -/
def decodeCmd (sel : BitVec 4) (p : Ports) : Result Instr DecodeError :=
  match sel.toNat with
  | 0x0 => .ok (.crcCompute p.opBuf)
  | 0x1 => .ok (.crcVerify p.opBuf)
  | 0x2 => .ok (.encRead p.opA p.opR p.opV)
  | 0x3 => .ok (.encWrite p.opA p.opR p.opV)
  | 0x4 => .ok (.decParse p.opBuf)
  | 0x5 => .ok (.psStart p.opInterval p.opOnfire)
  | 0x6 => .ok .psFire
  | 0x7 => .ok .psStop
  | 0x8 => .ok .dspReady
  | 0x9 => .ok .dspReadcycle
  | 0xA => .ok (.dspNotify p.opBuf)
  | 0xB => .ok (.dspSetload p.opV)
  | 0xC => .ok .dspDisconnect
  | 0xD => .ok .tick
  | _ => .err (.reservedSelect sel)

/-- A transmitted frame: 8 bytes with operation code 3 (READ_REQ, R81) or 6 (WRITE_REQ, R82).
The match is on the operation-code byte only, as `opcode_table.json` has it. -/
def decodeTx (B : Bytes) : Result Instr DecodeError :=
  let r := wordOf (byteAt B 2) (byteAt B 3)
  let v := wordOf (byteAt B 4) (byteAt B 5)
  let c := ule16 (byteAt B 6) (byteAt B 7)
  if B.length = 8 then
    if byteAt B 1 = Config.opRead then .ok (.frameReadReq (byteAt B 0) r v c)
    else if byteAt B 1 = Config.opWrite then .ok (.frameWriteReq (byteAt B 0) r v c)
    else .err .noRequestLayout
  else .err .noRequestLayout

/-- A received frame, its layout told by operation code and length (R89): READ_RSP (R83) or
WRITE_RSP (R84). Received bytes with neither layout are still a candidate frame, which
DEC.PARSE answers with a typed error (R51, R90, R171): they are DEC.PARSE of those bytes. -/
def decodeRx (B : Bytes) : Instr :=
  if 5 ≤ B.length ∧ byteAt B 1 = Config.opRead ∧ B.length = 5 + (byteAt B 2).toNat then
    .frameReadRsp (byteAt B 0) (slice B 3 (B.length - 2)) (storedCrc B)
  else if B.length = 8 ∧ byteAt B 1 = Config.opWrite then
    .frameWriteRsp (byteAt B 0) (wordOf (byteAt B 2) (byteAt B 3))
      (wordOf (byteAt B 4) (byteAt B 5)) (storedCrc B)
  else .decParse B

/-- The decoder: total, refusing by name. -/
def decode : OpWord → Result Instr DecodeError
  | .cmd sel p => decodeCmd sel p
  | .append p => .ok (.crcAppend p.opBuf)
  | .txFrame B => decodeTx B
  | .rxFrame B => .ok (decodeRx B)

/-- Ports on which nothing is driven: zeros, no bytes, the first `onFire` value. -/
def Ports.zero : Ports where
  opA := 0
  opR := 0
  opV := 0
  opBuf := []
  opInterval := 0
  opOnfire := .ReadCycle

/-- The encoder: the select and ports of R95, or the frame bytes of R81 to R84. -/
def encode : Instr → OpWord
  | .frameReadReq a r n c => .txFrame (frame8 Config.opRead a r n c)
  | .frameWriteReq a r v c => .txFrame (frame8 Config.opWrite a r v c)
  | .frameReadRsp a payload c => .rxFrame (readRspFrame a payload c)
  | .frameWriteRsp a r v c => .rxFrame (frame8 Config.opWrite a r v c)
  | .crcCompute buf => .cmd 0x0 { Ports.zero with opBuf := buf }
  | .crcVerify buf => .cmd 0x1 { Ports.zero with opBuf := buf }
  | .encRead a r n => .cmd 0x2 { Ports.zero with opA := a, opR := r, opV := n }
  | .encWrite a r v => .cmd 0x3 { Ports.zero with opA := a, opR := r, opV := v }
  | .decParse buf => .cmd 0x4 { Ports.zero with opBuf := buf }
  | .psStart interval onfire => .cmd 0x5 { Ports.zero with opInterval := interval, opOnfire := onfire }
  | .psFire => .cmd 0x6 Ports.zero
  | .psStop => .cmd 0x7 Ports.zero
  | .dspReady => .cmd 0x8 Ports.zero
  | .dspReadcycle => .cmd 0x9 Ports.zero
  | .dspNotify buf => .cmd 0xA { Ports.zero with opBuf := buf }
  | .dspSetload v => .cmd 0xB { Ports.zero with opV := v }
  | .dspDisconnect => .cmd 0xC Ports.zero
  | .tick => .cmd 0xD Ports.zero
  | .crcAppend buf => .append { Ports.zero with opBuf := buf }

/-- The command select of an operation in the table of R95; none for a frame layout and for the
pseudo-operation. -/
def Instr.select : Instr → Option (BitVec 4)
  | .frameReadReq _ _ _ _ => none
  | .frameWriteReq _ _ _ _ => none
  | .frameReadRsp _ _ _ => none
  | .frameWriteRsp _ _ _ _ => none
  | .crcCompute _ => some 0x0
  | .crcVerify _ => some 0x1
  | .encRead _ _ _ => some 0x2
  | .encWrite _ _ _ => some 0x3
  | .decParse _ => some 0x4
  | .psStart _ _ => some 0x5
  | .psFire => some 0x6
  | .psStop => some 0x7
  | .dspReady => some 0x8
  | .dspReadcycle => some 0x9
  | .dspNotify _ => some 0xA
  | .dspSetload _ => some 0xB
  | .dspDisconnect => some 0xC
  | .tick => some 0xD
  | .crcAppend _ => none

/-- The byte whose bits are `w[8*i+7 : 8*i]`. -/
def tableByte (w i : Nat) : Byte := BitVec.ofNat 8 (w / 2 ^ (8 * i))

/-- `n` bytes of a table word, the most significant bits first: the note of FRAME.READ_REQ, "over
the 8 bytes read as one big-endian 64-bit number", and the bit numbers of R81. -/
def tableBytesBig (n w : Nat) : Bytes := (List.range n).map fun i => tableByte w (n - 1 - i)

/-- `n` bytes of a table word, byte 0 the least significant. -/
def tableBytesLittle (n w : Nat) : Bytes := (List.range n).map fun i => tableByte w i

/-- The first bytes of a READ_RSP row, followed by zeros up to the length `5 + byteCount` its byte
count declares (the bits above the table's are 0). -/
def padReadRsp (B : Bytes) : Bytes :=
  B ++ List.replicate (5 + (byteAt B 2).toNat - B.length) 0

/-- A word of `opcode_table.json` as an issued word (log 10). Up to 8 bits: a command select, operand ports zero.
64 bits: an 8-byte frame in the row's numbering, on the transmit side. 24 bits: the first three
bytes of a READ_RSP, read as the row's note says, "as one big-endian 24-bit number". Any other width: the
first bytes of a received frame, byte 0 in the least significant bits. -/
def tableWord (nbits w : Nat) : Option OpWord :=
  if nbits ≤ 8 then
    if w < 16 then some (.cmd (BitVec.ofNat 4 w) Ports.zero) else none
  else if nbits = 64 then some (.txFrame (tableBytesBig 8 w))
  else if nbits = 24 then some (.rxFrame (padReadRsp (tableBytesBig 3 w)))
  else some (.rxFrame (padReadRsp (tableBytesLittle (nbits / 8) w)))

/-- The instruction the decoder reads from a word numbered as `opcode_table.json` numbers it. -/
def decodeTableWord (nbits w : Nat) : Option Instr :=
  match tableWord nbits w with
  | none => none
  | some word =>
    match decode word with
    | .ok i => some i
    | .err _ => none

end Sys2Proof
end

