-- ==== Sys2Proof/Machine/State.lean ====
section
/-! DEFINITION. The state of the block (rule R20), its value after reset (R311), and the
reasons a step can stop. -/

namespace Sys2Proof.Machine

/-- The scheduler states (R21, R200). -/
inductive PsState where
  | Idle
  | Armed
  | Stopped
  deriving DecidableEq, Repr

/-- The two observable connection states (R27). -/
inductive Conn where
  | Disconnected
  | Ready
  deriving DecidableEq, Repr

/-- The binding of the `onConnected` slot (R29). -/
inductive SlotConnected where
  | Default
  | Custom
  deriving DecidableEq, Repr

/-- The binding of the `onData` slot (R30). -/
inductive SlotData where
  | Bound
  | Unbound
  deriving DecidableEq, Repr

/-- One issued operation: who issues it, the transport's answer should it write to the transport
(written after `/` in R98), and the word itself. -/
structure Issue where
  issuer : Issuer
  tx : TxAnswer
  word : OpWord
  deriving DecidableEq, Repr

/-- The state. The first nine fields are the tuple of R20. The others are the model's own: the
configuration, which no operation writes (R32, R71; log 3), the output trace and the
result port (R33, R34; log 8), the transport's answer to the operation being performed (R237;
log 5), and the operations issued and not yet performed, in their serial order (R65; log 4). -/
structure State where
  /-- `PS_STATE` (R21). -/
  psState : PsState
  /-- `PS_COUNT` in ticks (R22). -/
  psCount : Nat
  /-- `PS_INTERVAL` in seconds (R23). -/
  psInterval : Nat
  /-- `PS_ACTIVE` (R24). -/
  psActive : Bool
  /-- `PS_ONFIRE` (R25). -/
  psOnfire : OnFire
  /-- `CONN` (R27). -/
  conn : Conn
  /-- `LAST_RECORD` (R28). -/
  lastRecord : Option TelemetryRecord
  /-- `SLOT_CONNECTED` (R29). -/
  slotConnected : SlotConnected
  /-- `SLOT_DATA` (R30). -/
  slotData : SlotData
  /-- The configuration (R6 to R10). -/
  cfg : Config
  /-- The output trace, oldest output first (R33). -/
  trace : List Output
  /-- The result port (R34). -/
  result : OpResult
  /-- The transport's answer (R237). -/
  txAnswer : TxAnswer
  /-- The operations issued and not yet performed, next first (R65, R276). -/
  pending : List Issue
  deriving DecidableEq, Repr

/-- Why the machine would stop with a fault. No operation of the block faults, traps or gets
stuck (R171, R272, R284), so there is no constructor. -/
inductive Fault where
  deriving DecidableEq, Repr

/-- Why an issued operation is not performed. -/
inductive Refusal where
  /-- Raised by an arm of `exec` that has no meaning yet. Safe: nothing is claimed of it. No arm
  raises it. -/
  | notModelled (mnemonic : String)
  /-- Raised by the fetch: a reserved select (R96), or bytes on the transmit side with neither request
  layout (R81, R82, R145). Safe: the hardware has no such operation. -/
  | undecodable (e : DecodeError)
  /-- Raised by the fetch: PS.FIRE not from the timer context (R96), or a transport event not from
  the transport (R278; log 9). Safe: the hardware has no such event. -/
  | wrongIssuer (issuer : Issuer)
  /-- Raised by PS.FIRE while it is not enabled (R96, R205). Safe: "it is not an operation the
  hardware can perform". -/
  | fireNotEnabled
  /-- Raised by PS.START with `OP_INTERVAL < 1` (R203; decision D20). Safe: "a model refuses a
  PS.START that breaks it". -/
  | intervalBelowOne
  deriving DecidableEq, Repr

/-- The block as it is created, before any operation (R310 to R312), with its configuration and
the two sink slots bound at boot. `PS_INTERVAL` and `PS_ONFIRE` are unspecified (R23, R25): the model
names 1 (log 1) and `ReadCycle` (log 2), DESIGN CHOICE, unsafe. -/
def State.created (cfg : Config) (slotConnected : SlotConnected) (slotData : SlotData) : State where
  psState := .Idle
  psCount := 0
  psInterval := 1
  psActive := false
  psOnfire := .ReadCycle
  conn := .Disconnected
  lastRecord := none
  slotConnected := slotConnected
  slotData := slotData
  cfg := cfg
  trace := []
  result := .none
  txAnswer := Config.openTxAnswer
  pending := []

/-- The machine right after reset (R311): the slots at `Default` and `Bound` (R29, R30), the
OPEN parameters at their defaults (R8, R9) or free (log 3). -/
def State.reset : State := State.created Config.boot .Default .Bound

end Sys2Proof.Machine
end

