-- ==== Sys2Proof/Machine/Flags.lean ====
section
/-! DEFINITION. The flag-like values of the block (rule R36) and the predicates the spec names
over the state. -/

namespace Sys2Proof.Machine

/-- The `Ok`/`Err` tag of a result (R36); none where the result type has no such tag (R95). -/
def okTag : OpResult → Option Bool
  | .ok _ => some true
  | .err _ => some false
  | .none => none
  | .uint16 _ => none
  | .bool _ => none
  | .bytes _ => none

/-- "A timer handle is present" (R21). -/
def timerPresent (s : State) : Bool := s.psState == .Armed

/-- The remaining counts of the live timers, the multiset `TIMERS` of R26. -/
def timers (s : State) : List Nat := if timerPresent s then [s.psCount] else []

/-- PS.FIRE is enabled exactly when `PS_STATE = Armed and PS_COUNT = 0` (R205). -/
def fireEnabled (s : State) : Bool := s.psState == .Armed && s.psCount == 0

/-- `severity(e)` (R270). -/
def severity : ProtocolError → Severity
  | .unknownOperation _ => .low
  | .truncated => .normal
  | .checksumMismatch => .normal
  | .lengthMismatch => .normal

/-- The number of an error kind (R260; decision D6). -/
def errorCode : ErrorKind → Nat
  | .protocol .truncated => 1
  | .protocol .checksumMismatch => 2
  | .protocol .lengthMismatch => 3
  | .protocol (.unknownOperation _) => 4
  | .encode .invalidArgument => 5
  | .transport .transportWriteFailed => 6

/-- Who may issue an operation: PS.FIRE the timer context only (R96, R205), the three transport events
the transport only (R278), every other operation anyone ("the only restriction on who may
issue what", R278). -/
def mayIssue (who : Issuer) : Instr → Bool
  | .psFire => who == .timer
  | .dspReady => who == .transport
  | .dspNotify _ => who == .transport
  | .dspDisconnect => who == .transport
  | .frameReadReq _ _ _ _ => true
  | .frameWriteReq _ _ _ _ => true
  | .frameReadRsp _ _ _ => true
  | .frameWriteRsp _ _ _ _ => true
  | .crcCompute _ => true
  | .crcVerify _ => true
  | .crcAppend _ => true
  | .encRead _ _ _ => true
  | .encWrite _ _ _ => true
  | .decParse _ => true
  | .psStart _ _ => true
  | .psStop => true
  | .dspReadcycle => true
  | .dspSetload _ => true
  | .tick => true

end Sys2Proof.Machine
end

