-- ==== Sys2Proof/Machine/Ops.lean ====
section
/-! DEFINITION. The named operations over the state: the result port and raising an error
(rules R14, R268), outputs (R33), the timer (R201, R208), the session (R232), the transport
write (R237). -/

namespace Sys2Proof.Machine

/-- What a meaning answers. -/
abbrev Answer := Host.Outcome State Fault Refusal

/-- The value on the result port (R34). -/
def State.setResult (s : State) (r : OpResult) : State := { s with result := r }

/-- `emit P(x)`: append one output to the trace (R14, R33). -/
def State.emit (s : State) (o : Output) : State := { s with trace := s.trace ++ [o] }

/-- Arming the timer: the whole update of R201. The old count, whatever it was, is discarded. -/
def State.arm (s : State) (interval : Nat) (onfire : OnFire) : State :=
  { s with
    psInterval := interval
    psOnfire := onfire
    psCount := interval * s.cfg.ticksPerSecond
    psActive := true
    psState := .Armed }

/-- The re-arm of PS.FIRE "for another `intervalSeconds`" (R206). -/
def State.rearm (s : State) : State :=
  { s with psCount := s.psInterval * s.cfg.ticksPerSecond, psState := .Armed }

/-- Cancelling the timer: the update of PS.STOP (R208). -/
def State.cancel (s : State) : State :=
  { s with psCount := 0, psActive := false, psState := .Stopped }

/-- A fresh session in place of a stopped one (R232): `PS_STATE <- Idle`, no timer. -/
def State.freshSession (s : State) : State :=
  { s with psState := .Idle, psCount := 0, psActive := false }

/-- One unit of time (R204): the armed count goes down, never below 0. -/
def State.countDown (s : State) : State :=
  { s with psCount := if s.psState = .Armed ∧ 0 < s.psCount then s.psCount - 1 else s.psCount }

/-- `CONN <- c` (R27). -/
def State.setConn (s : State) (c : Conn) : State := { s with conn := c }

/-- `LAST_RECORD <- r` (R28). -/
def State.setRecord (s : State) (r : Option TelemetryRecord) : State := { s with lastRecord := r }

/-- An issued operation becomes the one being performed: it leaves the list, and its draw stands
on the transport's answer port (R65, R98, R237). -/
def State.accept (s : State) (iss : Issue) (rest : List Issue) : State :=
  { s with txAnswer := iss.tx, pending := rest }

/-- An operation issued before all pending ones. -/
def State.issueFirst (s : State) (iss : Issue) : State :=
  { s with pending := iss :: s.pending }

/-- `return v`: the operation ends with a value on the result port (R14). -/
def ret (r : OpResult) (s : State) : Answer := .next (s.setResult r)

/-- `raise E`: the operation ends with `Err(E)` on the result port and writes no other state
(R14, R268). There is no handler and no return from one (R271). -/
def raise (e : ErrorKind) (s : State) : Answer := .next (s.setResult (.err e))

/-- PS.START for an interval of at least 1 (R201); in Stopped it changes nothing (R202). -/
def startTimer (interval : Nat) (onfire : OnFire) (s : State) : State :=
  match s.psState with
  | .Stopped => s
  | .Idle => s.arm interval onfire
  | .Armed => s.arm interval onfire

/-- `TX.WRITE(frame)` and the transport's answer to it (R237): the output is emitted whatever the
answer is. -/
def transmit (frame : Bytes) (s : State) : Result Unit TransportError × State :=
  (match s.txAnswer with
    | .ok => .ok ()
    | .fail => .err .transportWriteFailed,
   s.emit (.txWrite frame))

/-- The request of a poll: `ENC.READ(DEVICE_ADDRESS, READ_REGISTER, READ_WORDCOUNT)`, which is Ok
for every configuration (R233, R241). -/
def pollRequest (cfg : Config) : Bytes :=
  requestFrame Config.opRead cfg.deviceAddress cfg.readRegister cfg.readWordcount

/-- The read cycle (R233), shared by DSP.READCYCLE and PS.FIRE. -/
def readCycle (s : State) : Result Unit TransportError × State :=
  transmit (pollRequest s.cfg) s

/-- The result of a transport write as an operation's result: a failure is raised (R233, R235). -/
def answerSent (r : Result Unit TransportError × State) : Answer :=
  ret
    (match r.1 with
      | .ok () => .ok .unit
      | .err e => .err (.transport e))
    r.2

/-- The result of DEC.PARSE as an operation's result (R160, R269). -/
def answerParsed (r : Result Decoded ProtocolError) (s : State) : Answer :=
  ret
    (match r with
      | .ok d => .ok (.decoded d)
      | .err e => .err (.protocol e))
    s

/-- The result of an encoder operation (R140, R141, R269). -/
def answerEncoded (r : Result Bytes EncodeError) (s : State) : Answer :=
  ret
    (match r with
      | .ok frame => .ok (.frame frame)
      | .err e => .err (.encode e))
    s

/-- The action bound as `onFire` (R25, R206): a read cycle, whose failure surfaces as `ERR`, or the
strobe. -/
def fireAction (s : State) : State :=
  match s.psOnfire with
  | .ReadCycle =>
    match (readCycle s).1 with
    | .ok () => (readCycle s).2
    | .err e => (readCycle s).2.emit (.err e)
  | .HostStrobe => s.emit .hostFire

/-- Forwarding a decoded result to the `onData` slot (R30, R234). -/
def forward (d : Decoded) (s : State) : State :=
  match s.slotData with
  | .Bound => s.emit (.sinkData d)
  | .Unbound => s

/-- What DSP.NOTIFY does with the decoder's result (R234). -/
def deliver (r : Result Decoded ProtocolError) (s : State) : State :=
  match r with
  | .ok (.telemetry t) => forward (.telemetry t) (s.setRecord (some t))
  | .ok (.writeAck w) => forward (.writeAck w) s
  | .err e => s.emit (.log (severity e) e)

/-- The default `onConnected` behaviour (R231, R232): a stopped session is replaced, then polling
starts. -/
def startPolling (s : State) : State :=
  startTimer s.cfg.pollInterval .ReadCycle
    (if s.psState = .Stopped then s.freshSession else s)

end Sys2Proof.Machine
end

