-- ==== Sys2Proof/Machine/Checksum.lean ====
section
/-! DEFINITION. The Checksum unit's operations (rules R120 to R128). -/

namespace Sys2Proof.Machine

/-- CRC.COMPUTE (R120): pure, total. -/
def execCrcCompute (buf : Bytes) (s : State) : Answer := ret (.uint16 (crcOf buf)) s

/-- CRC.VERIFY (R123, R124): pure, total. -/
def execCrcVerify (buf : Bytes) (s : State) : Answer := ret (.bool (crcVerifies buf)) s

/-- CRC.APPEND (R125): pure, total. -/
def execCrcAppend (buf : Bytes) (s : State) : Answer := ret (.bytes (crcAppended buf)) s

end Sys2Proof.Machine
end

