-- ==== Sys2Proof/Machine/Decoder.lean ====
section
/-! DEFINITION. The FrameDecoder's operation (rules R160 to R176). -/

namespace Sys2Proof.Machine

/-- DEC.PARSE (R160, R174): pure, total (R171, R173). -/
def execDecParse (buf : Bytes) (s : State) : Answer := answerParsed (parse s.cfg buf) s

end Sys2Proof.Machine
end

