-- ==== Sys2Proof/Machine/Dispatcher.lean ====
section
/-! DEFINITION. The Dispatcher's operations (rules R230 to R241). No operation reads `CONN`
(R240). -/

namespace Sys2Proof.Machine

/-- DSP.READY (R231, R232). -/
def execDspReady (s : State) : Answer :=
  let connected := (s.setConn .Ready).emit .sinkConnected
  ret .none
    (match s.slotConnected with
      | .Default => startPolling connected
      | .Custom => connected)

/-- DSP.READCYCLE (R233). -/
def execDspReadcycle (s : State) : Answer := answerSent (readCycle s)

/-- DSP.NOTIFY (R234): decode, then forward or log; no error leaves the operation. -/
def execDspNotify (buf : Bytes) (s : State) : Answer := ret .none (deliver (parse s.cfg buf) s)

/-- DSP.SETLOAD (R235): nothing is sent for an operand out of range. -/
def execDspSetload (v : Int) (s : State) : Answer :=
  match encodeRequest Config.opWrite s.cfg.deviceAddress.toNat s.cfg.loadRegister.toNat v with
  | .err e => raise (.encode e) s
  | .ok frame => answerSent (transmit frame s)

/-- DSP.DISCONNECT (R236): PS.STOP, and the held session state is released. -/
def execDspDisconnect (s : State) : Answer :=
  ret .none ((s.cancel.setConn .Disconnected).setRecord none)

end Sys2Proof.Machine
end

