-- ==== Sys2Proof/Machine/Encoder.lean ====
section
/-! DEFINITION. The FrameEncoder's operations (rules R140 to R146). -/

namespace Sys2Proof.Machine

/-- ENC.READ (R140). -/
def execEncRead (a r n : Int) (s : State) : Answer :=
  answerEncoded (encodeRequest Config.opRead a r n) s

/-- ENC.WRITE (R141). -/
def execEncWrite (a r v : Int) (s : State) : Answer :=
  answerEncoded (encodeRequest Config.opWrite a r v) s

end Sys2Proof.Machine
end

