-- ==== Sys2Proof/Machine/PollTimer.lean ====
section
/-! DEFINITION. The PollScheduler's operations and TICK (rules R200 to R214). -/

namespace Sys2Proof.Machine

/-- PS.START (R201, R202); an interval below 1 is refused (R203; log 15). -/
def execPsStart (interval : Int) (onfire : OnFire) (s : State) : Answer :=
  if interval < 1 then .refused .intervalBelowOne
  else ret .none (startTimer interval.toNat onfire s)

/-- PS.FIRE (R206, R207), one atomic step; refused when not enabled (R96, R205). -/
def execPsFire (s : State) : Answer :=
  if fireEnabled s then
    let fired := fireAction s
    ret .none (if fired.psActive then fired.rearm else fired)
  else .refused .fireNotEnabled

/-- PS.STOP (R208). -/
def execPsStop (s : State) : Answer := ret .none s.cancel

/-- TICK (R204). -/
def execTick (s : State) : Answer := ret .none s.countDown

end Sys2Proof.Machine
end

