-- ==== Sys2Proof/Machine/Wire.lean ====
section
/-! DEFINITION. The four frame rows of the opcode table. Their semantics rule is that "of the
operation that builds or consumes it" (rule R100): the encoder builds a request (R140, R141), the
decoder consumes a response (R164, R169). -/

namespace Sys2Proof.Machine

/-- FRAME.READ_REQ: the encoder builds this frame (R81, R140). The checksum field is not an operand
of the encoder, which computes it (R81; log 6). -/
def execFrameReadReq (a : Byte) (r n : Word) (s : State) : Answer :=
  answerEncoded (encodeRequest Config.opRead a.toNat r.toNat n.toNat) s

/-- FRAME.WRITE_REQ: the encoder builds this frame (R82, R141; log 6). -/
def execFrameWriteReq (a : Byte) (r v : Word) (s : State) : Answer :=
  answerEncoded (encodeRequest Config.opWrite a.toNat r.toNat v.toNat) s

/-- FRAME.READ_RSP: DEC.PARSE consumes this frame (R83, R164). -/
def execFrameReadRsp (a : Byte) (payload : Bytes) (c : Word) (s : State) : Answer :=
  answerParsed (parse s.cfg (readRspFrame a payload c)) s

/-- FRAME.WRITE_RSP: DEC.PARSE consumes this frame (R84, R169). -/
def execFrameWriteRsp (a : Byte) (r v c : Word) (s : State) : Answer :=
  answerParsed (parse s.cfg (frame8 Config.opWrite a r v c)) s

end Sys2Proof.Machine
end

