-- ==== Sys2Proof/Machine/Dispatch.lean ====
section
/-! DEFINITION. One arm per instruction. -/

namespace Sys2Proof.Machine

def exec (i : Instr) (s : State) : Host.Outcome State Fault Refusal :=
  match i with
  | .frameReadReq a r n _ => Sys2Proof.Machine.execFrameReadReq a r n s
  | .frameWriteReq a r v _ => Sys2Proof.Machine.execFrameWriteReq a r v s
  | .frameReadRsp a payload c => Sys2Proof.Machine.execFrameReadRsp a payload c s
  | .frameWriteRsp a r v c => Sys2Proof.Machine.execFrameWriteRsp a r v c s
  | .crcCompute buf => Sys2Proof.Machine.execCrcCompute buf s
  | .crcVerify buf => Sys2Proof.Machine.execCrcVerify buf s
  | .encRead a r n => Sys2Proof.Machine.execEncRead a r n s
  | .encWrite a r v => Sys2Proof.Machine.execEncWrite a r v s
  | .decParse buf => Sys2Proof.Machine.execDecParse buf s
  | .psStart interval onfire => Sys2Proof.Machine.execPsStart interval onfire s
  | .psFire => Sys2Proof.Machine.execPsFire s
  | .psStop => Sys2Proof.Machine.execPsStop s
  | .dspReady => Sys2Proof.Machine.execDspReady s
  | .dspReadcycle => Sys2Proof.Machine.execDspReadcycle s
  | .dspNotify buf => Sys2Proof.Machine.execDspNotify buf s
  | .dspSetload v => Sys2Proof.Machine.execDspSetload v s
  | .dspDisconnect => Sys2Proof.Machine.execDspDisconnect s
  | .tick => Sys2Proof.Machine.execTick s
  | .crcAppend buf => Sys2Proof.Machine.execCrcAppend buf s

end Sys2Proof.Machine
end

