-- ==== Sys2Proof/Machine/Fetch.lean ====
section
/-! DEFINITION. Taking the next issued operation: the serial order of rule R65, the decoder, and
who may issue what (R96, R278). -/

namespace Sys2Proof.Machine

/-- What stands next. -/
inductive Fetched where
  /-- Nothing is issued. -/
  | idle
  /-- The instruction to perform, and the state it is performed in. -/
  | run (i : Instr) (s : State)
  /-- What is issued is not an operation the hardware can perform. -/
  | refuse (r : Refusal)
  deriving DecidableEq, Repr

/-- The next issued operation, decoded and checked against its issuer. -/
def fetch (s : State) : Fetched :=
  match s.pending with
  | [] => .idle
  | iss :: rest =>
    match decode iss.word with
    | .err e => .refuse (.undecodable e)
    | .ok i =>
      if mayIssue iss.issuer i then .run i (s.accept iss rest)
      else .refuse (.wrongIssuer iss.issuer)

/-- The issuer the table of R95 gives a word's operation (the first it lists). -/
def usualIssuer (word : OpWord) : Issuer :=
  match decode word with
  | .ok .psFire => .timer
  | .ok .dspReady => .transport
  | .ok (.dspNotify _) => .transport
  | .ok .dspDisconnect => .transport
  | .ok .tick => .clock
  | _ => .host

/-- A word of the opcode table issued so that it is performed next, by its usual issuer; the transport's
answer stays what it is. -/
def issueTableWord (s : State) (nbits w : Nat) : State :=
  match tableWord nbits w with
  | none => s
  | some word => s.issueFirst ⟨usualIssuer word, s.txAnswer, word⟩

end Sys2Proof.Machine
end

