-- ==== Sys2Proof/Machine/Step.lean ====
section
/-! DEFINITION. One step: the next issued operation is performed, whole (rules R60, R65). -/

namespace Sys2Proof.Machine

/-- One step of the machine. With nothing issued nothing happens (log 4). -/
def step (s : State) : Host.Outcome State Fault Refusal :=
  match fetch s with
  | .idle => .next s
  | .run i s' => exec i s'
  | .refuse r => .refused r

/-- `s` with the instruction of a table word issued first, so that the next step performs it. -/
def State.withFetchWord (s : State) (nbits w : Nat) : State := issueTableWord s nbits w

end Sys2Proof.Machine
end

