-- ==== Sys2Proof/Machine/Boot.lean ====
section
/-! DEFINITION. Boot (rule R312): a raw configuration is checked and refused by name (R8, R93, R241),
the sink slots are bound, and the block is created. -/

namespace Sys2Proof.Machine

/-- A raw entry of `FIELD_TABLE` (R91). -/
structure RawEntry where
  name : FieldName
  offset : Nat
  width : Nat
  scale : Rat
  signed : Bool
  deriving DecidableEq, Repr

/-- A raw configuration: the parameters of R7 to R9 as they are injected. The two that have a default
may be left unset. -/
structure RawConfig where
  deviceAddress : Int
  loadRegister : Int
  readRegister : Int
  readWordcount : Int
  pollInterval : Int
  ticksPerSecond : Option Int := none
  fieldTable : List RawEntry
  signRepr : Option SignRepr := none
  deriving DecidableEq, Repr

/-- Why a configuration is refused. -/
inductive ConfigRefusal where
  /-- `DEVICE_ADDRESS` outside 0..255 (R241). -/
  | deviceAddressRange
  /-- `LOAD_REGISTER` outside 0..65535 (R241). -/
  | loadRegisterRange
  /-- `READ_REGISTER` outside 0..65535 (R241). -/
  | readRegisterRange
  /-- `READ_WORDCOUNT` outside 0..65535 (R241). -/
  | readWordcountRange
  /-- `POLL_INTERVAL` below 1 (R8). -/
  | pollIntervalBelowOne
  /-- `TICKS_PER_SECOND` below 1 (R8). -/
  | ticksPerSecondBelowOne
  /-- Not exactly one table entry of this name (R93 (a)). -/
  | notOneEntry (name : FieldName)
  /-- A table entry of width 0 (R93 (b)). -/
  | widthZero (name : FieldName)
  /-- A table entry that ends past payload byte 255 (R93 (c)). -/
  | spanTooLarge (name : FieldName)
  deriving DecidableEq, Repr

/-- One table entry, checked (R93 (b), (c)). -/
def loadEntry (e : RawEntry) : Except ConfigRefusal FieldEntry :=
  if hw : 1 ≤ e.width then
    if hs : e.offset + e.width ≤ 255 then
      .ok ⟨e.offset, e.width, e.scale, e.signed, hw, hs⟩
    else .error (.spanTooLarge e.name)
  else .error (.widthZero e.name)

/-- The one entry of a name, checked (R93 (a)). -/
def loadField (rows : List RawEntry) (name : FieldName) : Except ConfigRefusal FieldEntry :=
  match rows.filter (fun e => e.name == name) with
  | [e] => loadEntry e
  | _ => .error (.notOneEntry name)

/-- The field table, checked (R93). -/
def loadFieldTable (rows : List RawEntry) : Except ConfigRefusal FieldTable := do
  let battery_percentage ← loadField rows .battery_percentage
  let battery_voltage ← loadField rows .battery_voltage
  let battery_current ← loadField rows .battery_current
  let controller_temperature ← loadField rows .controller_temperature
  let battery_temperature ← loadField rows .battery_temperature
  let load_status ← loadField rows .load_status
  let load_voltage ← loadField rows .load_voltage
  let load_current ← loadField rows .load_current
  let load_power ← loadField rows .load_power
  let pv_voltage ← loadField rows .pv_voltage
  let pv_current ← loadField rows .pv_current
  let pv_power ← loadField rows .pv_power
  let max_charging_power_today ← loadField rows .max_charging_power_today
  let max_discharging_power_today ← loadField rows .max_discharging_power_today
  let charging_amp_hours_today ← loadField rows .charging_amp_hours_today
  let discharging_amp_hours_today ← loadField rows .discharging_amp_hours_today
  let power_generation_today ← loadField rows .power_generation_today
  let power_consumption_today ← loadField rows .power_consumption_today
  let power_consumption_total ← loadField rows .power_consumption_total
  let power_generation_total ← loadField rows .power_generation_total
  let charging_status ← loadField rows .charging_status
  return {
    battery_percentage, battery_voltage, battery_current,
    controller_temperature, battery_temperature, load_status,
    load_voltage, load_current, load_power,
    pv_voltage, pv_current, pv_power,
    max_charging_power_today, max_discharging_power_today, charging_amp_hours_today,
    discharging_amp_hours_today, power_generation_today, power_consumption_today,
    power_consumption_total, power_generation_total, charging_status }

/-- `TICKS_PER_SECOND` as given, or its default 1 (R8). -/
def RawConfig.ticks (raw : RawConfig) : Int :=
  raw.ticksPerSecond.getD Config.defaultTicksPerSecond

/-- `SIGN_REPR` as given, or its default `twos_complement` (R9). -/
def RawConfig.repr (raw : RawConfig) : SignRepr := raw.signRepr.getD Config.defaultSignRepr

/-- The whole configuration, checked (R8, R93, R241), the defaults of R8 and R9 filled in. -/
def loadConfig (raw : RawConfig) : Except ConfigRefusal Config :=
  if !fitsByte raw.deviceAddress then .error .deviceAddressRange
  else if !fitsWord raw.loadRegister then .error .loadRegisterRange
  else if !fitsWord raw.readRegister then .error .readRegisterRange
  else if !fitsWord raw.readWordcount then .error .readWordcountRange
  else if hp : 1 ≤ raw.pollInterval then
    if ht : 1 ≤ raw.ticks then
      match loadFieldTable raw.fieldTable with
      | .error e => .error e
      | .ok table =>
        .ok {
          deviceAddress := BitVec.ofInt 8 raw.deviceAddress
          loadRegister := BitVec.ofInt 16 raw.loadRegister
          readRegister := BitVec.ofInt 16 raw.readRegister
          readWordcount := BitVec.ofInt 16 raw.readWordcount
          pollInterval := raw.pollInterval.toNat
          ticksPerSecond := raw.ticks.toNat
          fieldTable := table
          signRepr := raw.repr
          pollInterval_pos := by omega
          ticksPerSecond_pos := by omega }
    else .error .ticksPerSecondBelowOne
  else .error .pollIntervalBelowOne

/-- Boot (R312): the configuration is fixed, the slots are bound, and the block is created. -/
def bootBlock (raw : RawConfig) (slotConnected : SlotConnected) (slotData : SlotData) :
    Except ConfigRefusal State :=
  match loadConfig raw with
  | .error e => .error e
  | .ok cfg => .ok (State.created cfg slotConnected slotData)

end Sys2Proof.Machine
end

