-- ==== Sys2Proof/Safety.lean ====
section
/-! DEFINITION. The terms in which claims are stated: what a frame leaves unchanged, the
invariants, runs of operations, and the deterministic simulator of decision D21. -/

namespace Sys2Proof.Safety

open Sys2Proof.Machine

/-- The poll scheduler's five registers (R21 to R25) are unchanged. -/
def SameScheduler (s t : State) : Prop :=
  t.psState = s.psState ∧ t.psCount = s.psCount ∧ t.psInterval = s.psInterval ∧
    t.psActive = s.psActive ∧ t.psOnfire = s.psOnfire

/-- The Dispatcher's session registers (R27, R28) are unchanged. -/
def SameSession (s t : State) : Prop := t.conn = s.conn ∧ t.lastRecord = s.lastRecord

/-- What is fixed at boot (R29, R30, R71) and what the environment supplies (R65, R237) are
unchanged. -/
def SameSurroundings (s t : State) : Prop :=
  t.cfg = s.cfg ∧ t.slotConnected = s.slotConnected ∧ t.slotData = s.slotData ∧
    t.txAnswer = s.txAnswer ∧ t.pending = s.pending

/-- Every register of R20 is unchanged. -/
def SameState (s t : State) : Prop :=
  SameScheduler s t ∧ SameSession s t ∧ SameSurroundings s t

/-- Only the result port may differ: the frame of a pure operation (R128, R144, R173). -/
def OnlyResult (s t : State) : Prop := SameState s t ∧ t.trace = s.trace

/-- `PS_ACTIVE = 1 <-> PS_STATE = Armed` (R24); without a timer the count is 0 (R22); the armed
count never exceeds a full interval (R201, R204, R206); `PS_INTERVAL >= 1` (R23). -/
def TimerOk (s : State) : Prop :=
  (s.psActive = true ↔ s.psState = .Armed) ∧ (s.psState ≠ .Armed → s.psCount = 0) ∧
    s.psCount ≤ s.psInterval * s.cfg.ticksPerSecond ∧ 1 ≤ s.psInterval

/-- A request frame the block may send: 8 bytes, operation code 3 or 6, checksum verified (R39,
R144, R145). -/
def RequestOk (frame : Bytes) : Prop :=
  frame.length = 8 ∧ (byteAt frame 1 = 3 ∨ byteAt frame 1 = 6) ∧ crcVerifies frame = true

/-- Every frame handed to the transport so far was a request (R145). -/
def SentOk (s : State) : Prop := ∀ frame, Output.txWrite frame ∈ s.trace → RequestOk frame

/-- Instructions performed one after another, none when one of them does not answer a next
state. -/
def execAll : List Instr → State → Option State
  | [], s => some s
  | i :: rest, s =>
    match exec i s with
    | .next t => execAll rest t
    | .fault _ => none
    | .refused _ => none

/-- One round of the deterministic simulator: a TICK, and at once the PS.FIRE it enables (R205,
decision D21). -/
def tickRound (s : State) : Option State :=
  match execAll [.tick] s with
  | none => none
  | some t => if fireEnabled t then execAll [.psFire] t else some t

/-- `k` rounds of the deterministic simulator. -/
def tickRounds : Nat → State → Option State
  | 0, s => some s
  | k + 1, s =>
    match tickRound s with
    | none => none
    | some t => tickRounds k t

/-- Arming on the timer multiset `TIMERS` of R26: one more timer. -/
def armTimer (count : Nat) (T : List Nat) : List Nat := count :: T

/-- Cancelling on `TIMERS` (R26): none is left. -/
def cancelTimers (_ : List Nat) : List Nat := []

/-- What an operation performed in `s` does to `TIMERS`, in R26's words: PS.START cancels and then arms
(R201), or does neither when Stopped (R202); TICK counts every timer down (R204); PS.FIRE consumes the
expired one-shot timer and arms it again (R206); PS.STOP and DSP.DISCONNECT cancel (R208, R236);
DSP.READY starts in a fresh session by default (R231, R232). Nothing here reads `PS_COUNT`. -/
def timersAfter (i : Instr) (s : State) (T : List Nat) : List Nat :=
  match i with
  | .psStart n _ =>
    if s.psState = .Stopped then T
    else armTimer (n.toNat * s.cfg.ticksPerSecond) (cancelTimers T)
  | .tick => T.map fun count => count - 1
  | .psFire =>
    let left := T.erase 0
    if s.psActive = true then armTimer (s.psInterval * s.cfg.ticksPerSecond) left else left
  | .psStop => cancelTimers T
  | .dspDisconnect => cancelTimers T
  | .dspReady =>
    match s.slotConnected with
    | .Default => armTimer (s.cfg.pollInterval * s.cfg.ticksPerSecond) (cancelTimers T)
    | .Custom => T
  | .frameReadReq _ _ _ _ => T
  | .frameWriteReq _ _ _ _ => T
  | .frameReadRsp _ _ _ => T
  | .frameWriteRsp _ _ _ _ => T
  | .crcCompute _ => T
  | .crcVerify _ => T
  | .crcAppend _ => T
  | .encRead _ _ _ => T
  | .encWrite _ _ _ => T
  | .decParse _ => T
  | .dspReadcycle => T
  | .dspNotify _ => T
  | .dspSetload _ => T

/-- Instructions performed one after another, with `TIMERS` kept beside the state. -/
def execAllTimers : List Instr → State → List Nat → Option (State × List Nat)
  | [], s, T => some (s, T)
  | i :: rest, s, T =>
    match exec i s with
    | .next t => execAllTimers rest t (timersAfter i s T)
    | .fault _ => none
    | .refused _ => none

/-- Byte `i` of a frame with its bit `j` flipped (R129). -/
def flipBit (B : Bytes) (i j : Nat) : Bytes :=
  B.set i (byteAt B i ^^^ BitVec.ofNat 8 (2 ^ j))

/-- The value of a telemetry field read off a payload: `raw` is the big-endian number of the field's
bytes, negative numbers are those of `SIGN_REPR`, and the scale multiplies exactly (R88, R166 to
R168). The claims about DEC.PARSE compare its records with this. -/
def fieldOfPayload (repr : SignRepr) (e : FieldEntry) (payload : Bytes) : Rat :=
  let raw := ube ((payload.drop e.offset).take e.width)
  let half := 2 ^ (8 * e.width - 1)
  let value : Int :=
    if e.signed = true ∧ half ≤ raw then
      match repr with
      | .twos_complement => raw - 2 * half
      | .sign_magnitude => half - raw
    else raw
  e.scale * (value : Rat)

end Sys2Proof.Safety
end

