-- ==== Sys2Proof/Certificates/Slice0/Obligations.lean ====
section
/-! DEFINITION. The statements for the provers, each a proposition over all states or operands. -/

open Sys2Proof Sys2Proof.Machine Sys2Proof.Safety

/-! ## Encoding -/

/-- Decoding the encoding of an instruction gives it back, with every operand the encoding can
carry (R81 to R84, R86, R95). -/
def Obligations.DecodeEncodeRoundTrip : Prop :=
  ∀ i : Instr, i.encodable = true → decode (encode i) = .ok i

/-- No bit of a frame is dropped: the bytes of a decoded frame are those its instruction encodes to,
or, with no response layout, the operand of DEC.PARSE (R51, R81 to R84). That such received bytes
are DEC.PARSE of them is the model's choice (log 7). -/
def Obligations.DecodedFramesEncodeBack : Prop :=
  ∀ (B : Bytes) (i : Instr),
    (decode (.txFrame B) = .ok i → encode i = .txFrame B) ∧
    (decode (.rxFrame B) = .ok i → encode i = .rxFrame B ∨ i = .decParse B)

/-- Selects 0x0 to 0xD are the 14 operations of R95, whatever is on the ports; 0xE and 0xF are
reserved (R96). -/
def Obligations.SelectsOfTheTable : Prop :=
  ∀ (sel : BitVec 4) (p : Ports),
    (sel.toNat < 14 → ∃ i, decode (.cmd sel p) = .ok i ∧ i.select = some sel) ∧
    (14 ≤ sel.toNat → decode (.cmd sel p) = .err (.reservedSelect sel))

/-- A few words written out from R81 to R84 and R95 decode to the instruction they stand for. How a
number of the opcode table is laid out as an issued word, on which the last two clauses rest, is the
model's choice (log 10). -/
def Obligations.WrittenOutWordsDecode : Prop :=
  decode (.txFrame [0xFF, 0x03, 0x01, 0x00, 0x00, 0x22, 0xD1, 0xF1]) =
    .ok (.frameReadReq 255 256 34 0xF1D1) ∧
  decode (.txFrame [0xFF, 0x06, 0x01, 0x0A, 0x00, 0x01, 0x7C, 0x2A]) =
    .ok (.frameWriteReq 255 266 1 0x2A7C) ∧
  decode (.rxFrame [0xFF, 0x03, 0x02, 0x00, 0x64, 0x90, 0x7B]) =
    .ok (.frameReadRsp 255 [0x00, 0x64] 0x7B90) ∧
  decode (.rxFrame [0x01, 0x06, 0x01, 0x0A, 0x00, 0x01, 0x69, 0xF4]) =
    .ok (.frameWriteRsp 1 266 1 0xF469) ∧
  decodeTableWord 8 0x7 = some .psStop ∧ decodeTableWord 8 0xD = some .tick

/-! ## The step -/

/-- A step performs the next issued operation, whole, with the transport's answer that was issued
with it (R60, R65); with nothing issued it changes nothing (the model's choice, log 4). -/
def Obligations.StepRunsIssuedInstruction : Prop :=
  (∀ (s : State) (iss : Issue) (rest : List Issue) (i : Instr),
    s.pending = iss :: rest → decode iss.word = .ok i → mayIssue iss.issuer i = true →
    step s = exec i { s with txAnswer := iss.tx, pending := rest }) ∧
  (∀ s : State, s.pending = [] → step s = .next s)

/-- R96 (the spec's decision D5): reserved selects, a PS.FIRE not from the timer context and a
PS.FIRE that is not enabled are refused. -/
def Obligations.ImpossibleOperationsRefused : Prop :=
  ∀ (s : State) (iss : Issue) (rest : List Issue), s.pending = iss :: rest →
    (∀ sel p, iss.word = .cmd sel p → 14 ≤ sel.toNat →
      step s = .refused (.undecodable (.reservedSelect sel))) ∧
    (∀ p, iss.word = .cmd 0x6 p → iss.issuer ≠ .timer →
      step s = .refused (.wrongIssuer iss.issuer)) ∧
    (∀ p, iss.word = .cmd 0x6 p → iss.issuer = .timer →
      ¬ (s.psState = .Armed ∧ s.psCount = 0) → step s = .refused .fireNotEnabled)

/-- A table word that decodes is what the next step runs, whole (R60, R65), once it is issued first.
Issuing it by `withFetchWord` and its layout as an issued word are the model's choices (log 4,
log 10). -/
def Obligations.TableWordRunsNext : Prop :=
  ∀ (s : State) (nbits w : Nat) (i : Instr), decodeTableWord nbits w = some i →
    step (s.withFetchWord nbits w) = exec i s

/-! ## Checksum -/

/-- CRC.COMPUTE completes on every operand, changes the result port only, and is the bit-serial
register of R122: 0xFFFF for no byte, eight shift steps for each further byte. The parameters are
the spec's general knowledge (R121, log 14). -/
def Obligations.CrcComputeIsTheRegister : Prop :=
  (∀ (X : Bytes) (s : State), ∃ t, exec (.crcCompute X) s = .next t ∧ OnlyResult s t ∧
    t.result = .uint16 (crcOf X)) ∧
  (∀ s : State, ∃ t, exec (.crcCompute []) s = .next t ∧ t.result = .uint16 0xFFFF) ∧
  (∀ (X : Bytes) (b : Byte) (s u : State) (c : Word),
    exec (.crcCompute X) s = .next u → u.result = .uint16 c →
    ∃ t, exec (.crcCompute (X ++ [b])) s = .next t ∧
      t.result = .uint16
        ((fun r : Word => if r.getLsbD 0 then (r >>> 1) ^^^ 0xA001#16 else r >>> 1)^[8]
          (c ^^^ b.zeroExtend 16)))

/-- The byte-wise form of R122 with its 256-entry table computes the same checksum. Both forms are
the spec's general knowledge (log 14). -/
def Obligations.CrcTableFormAgrees : Prop :=
  ∀ (X : Bytes) (s t : State), exec (.crcCompute X) s = .next t →
    t.result = .uint16 (crcOfByTable X)

/-- CRC.VERIFY compares the checksum of all bytes but the last two with those two, low byte
first (R123). -/
def Obligations.CrcVerifyResult : Prop :=
  ∀ (X : Bytes) (b0 b1 : Byte) (s : State), ∃ t,
    exec (.crcVerify (X ++ [b0, b1])) s = .next t ∧ OnlyResult s t ∧
      t.result = .bool (decide ((crcOf X).toNat = b0.toNat + 256 * b1.toNat))

/-- CRC.VERIFY of fewer than two bytes is false: R124, "this spec returns false", decision D17 and
not the source's. -/
def Obligations.CrcVerifyOfTooFewBytes : Prop :=
  ∀ (B : Bytes) (s : State), B.length < 2 → ∃ t,
    exec (.crcVerify B) s = .next t ∧ OnlyResult s t ∧ t.result = .bool false

/-- CRC.APPEND appends the checksum low byte first (R125), and the result verifies
(R126, where the empty sequence is the spec's own derivation). -/
def Obligations.CrcAppendVerifies : Prop :=
  ∀ (X : Bytes) (s : State), ∃ (t u : State) (b0 b1 : Byte),
    exec (.crcAppend X) s = .next t ∧ OnlyResult s t ∧ t.result = .bytes (X ++ [b0, b1]) ∧
    b0.toNat = (crcOf X).toNat % 256 ∧ b1.toNat = (crcOf X).toNat / 256 ∧
    exec (.crcVerify (X ++ [b0, b1])) t = .next u ∧ u.result = .bool true

/-- R127: an appended checksum leaves the register at zero, and for at least two bytes verifying is
the same as running every byte through the register and comparing with zero. The law rests on the
parameters of R121, which are the spec's general knowledge (log 14). -/
def Obligations.CrcResidueIsZero : Prop :=
  (∀ (X F : Bytes) (s t : State), exec (.crcAppend X) s = .next t → t.result = .bytes F →
    ∃ u, exec (.crcCompute F) t = .next u ∧ u.result = .uint16 0) ∧
  (∀ (B : Bytes) (s t u : State), 2 ≤ B.length →
    exec (.crcVerify B) s = .next t → exec (.crcCompute B) s = .next u →
    (t.result = .bool true ↔ u.result = .uint16 0))

/-- R129: a single flipped bit anywhere in a verified frame makes CRC.VERIFY false, and, from 5
bytes up, makes DEC.PARSE answer ChecksumMismatch. The exact form is the spec's general knowledge
("For this checksum the property is exact, not probabilistic"; log 14). -/
def Obligations.SingleBitFlipDetected : Prop :=
  ∀ (B : Bytes) (i j : Nat) (s t : State), exec (.crcVerify B) s = .next t →
    t.result = .bool true → i < B.length → j < 8 →
    (∃ u, exec (.crcVerify (flipBit B i j)) s = .next u ∧ u.result = .bool false) ∧
    (5 ≤ B.length → ∃ v, exec (.decParse (flipBit B i j)) s = .next v ∧
      v.result = .err (.protocol .checksumMismatch))

/-! ## Encoder -/

/-- ENC.READ (R140): in range the eight bytes of the layout R81, out of range InvalidArgument (R142,
R143); nothing else changes. That an address or register out of range and a negative operand are
InvalidArgument is the spec's decision D18 (R143, log 13). -/
def Obligations.EncReadResult : Prop :=
  ∀ (a r n : Int) (s : State),
    let inRange := (0 ≤ a ∧ a ≤ 255) ∧ (0 ≤ r ∧ r ≤ 65535) ∧ (0 ≤ n ∧ n ≤ 65535)
    let header : Bytes :=
      [BitVec.ofInt 8 a, 0x03, BitVec.ofInt 8 (r / 256), BitVec.ofInt 8 (r % 256),
        BitVec.ofInt 8 (n / 256), BitVec.ofInt 8 (n % 256)]
    (inRange → ∃ (t : State) (c0 c1 : Byte), exec (.encRead a r n) s = .next t ∧
      OnlyResult s t ∧ t.result = .ok (.frame (header ++ [c0, c1])) ∧
      c0.toNat + 256 * c1.toNat = (crcOf header).toNat) ∧
    (¬ inRange → ∃ t, exec (.encRead a r n) s = .next t ∧ OnlyResult s t ∧
      t.result = .err (.encode .invalidArgument))

/-- ENC.WRITE (R141): in range the eight bytes of the layout R82, out of range InvalidArgument
(R142, R143); nothing else changes. That an address or register out of range and a negative operand
are InvalidArgument is the spec's decision D18 (R143, log 13). -/
def Obligations.EncWriteResult : Prop :=
  ∀ (a r v : Int) (s : State),
    let inRange := (0 ≤ a ∧ a ≤ 255) ∧ (0 ≤ r ∧ r ≤ 65535) ∧ (0 ≤ v ∧ v ≤ 65535)
    let header : Bytes :=
      [BitVec.ofInt 8 a, 0x06, BitVec.ofInt 8 (r / 256), BitVec.ofInt 8 (r % 256),
        BitVec.ofInt 8 (v / 256), BitVec.ofInt 8 (v % 256)]
    (inRange → ∃ (t : State) (c0 c1 : Byte), exec (.encWrite a r v) s = .next t ∧
      OnlyResult s t ∧ t.result = .ok (.frame (header ++ [c0, c1])) ∧
      c0.toNat + 256 * c1.toNat = (crcOf header).toNat) ∧
    (¬ inRange → ∃ t, exec (.encWrite a r v) s = .next t ∧ OnlyResult s t ∧
      t.result = .err (.encode .invalidArgument))

/-- Every frame an encoder answers is a request that verifies, and distinct operands give distinct
frames (R144, R145). -/
def Obligations.EncodedFramesDistinct : Prop :=
  ∀ (a r v a' r' v' : Int) (s t t' : State) (F : Bytes),
    ((exec (.encRead a r v) s = .next t ∧ exec (.encRead a' r' v') s = .next t') ∨
      (exec (.encWrite a r v) s = .next t ∧ exec (.encWrite a' r' v') s = .next t')) →
    t.result = .ok (.frame F) → t'.result = .ok (.frame F) →
    RequestOk F ∧ a = a' ∧ r = r' ∧ v = v'

/-- R146: DEC.PARSE of the bytes a successful ENC.WRITE returns is the acknowledgement of that
register and value. -/
def Obligations.WriteEchoParses : Prop :=
  ∀ (a r v : Int) (s t : State) (F : Bytes),
    exec (.encWrite a r v) s = .next t → t.result = .ok (.frame F) →
    ∃ (u : State) (w : WriteAck), exec (.decParse F) t = .next u ∧
      u.result = .ok (.decoded (.writeAck w)) ∧
      (w.registerAddress.toNat : Int) = r ∧ (w.value.toNat : Int) = v

/-! ## Frame rows -/

/-- A request row is built by the encoder (R81, R82, R100): the result is the frame of its fields
with the computed checksum, which for a well-formed row is the frame itself. That the row's checksum
field is no operand is the model's choice (log 6). -/
def Obligations.RequestRowsAreBuilt : Prop :=
  ∀ (a : Byte) (r v c : Word) (s : State),
    (∃ (t : State) (F : Bytes), exec (.frameReadReq a r v c) s = .next t ∧ OnlyResult s t ∧
      t.result = .ok (.frame F) ∧ F = frame8 0x03 a r v (crcOf (header6 0x03 a r v)) ∧
      ((Instr.frameReadReq a r v c).wellFormed = true →
        encode (.frameReadReq a r v c) = .txFrame F)) ∧
    (∃ (t : State) (F : Bytes), exec (.frameWriteReq a r v c) s = .next t ∧ OnlyResult s t ∧
      t.result = .ok (.frame F) ∧ F = frame8 0x06 a r v (crcOf (header6 0x06 a r v)) ∧
      ((Instr.frameWriteReq a r v c).wellFormed = true →
        encode (.frameWriteReq a r v c) = .txFrame F))

/-- FRAME.READ_RSP (R83, R164 to R166): a wrong checksum is ChecksumMismatch, a payload shorter than
the table LengthMismatch (decision D16), any other a record of every field (its signs and scale as
decisions D12 and D13 have them). That performing the row is DEC.PARSE of its frame is the model's
reading of R100 (log 7, DEDUCED). -/
def Obligations.ReadRspResult : Prop :=
  ∀ (a : Byte) (payload : Bytes) (c : Word) (s : State), payload.length ≤ 255 →
    ∃ t, exec (.frameReadRsp a payload c) s = .next t ∧ OnlyResult s t ∧
      (c ≠ crcOf ([a, 0x03, BitVec.ofNat 8 payload.length] ++ payload) →
        t.result = .err (.protocol .checksumMismatch)) ∧
      (c = crcOf ([a, 0x03, BitVec.ofNat 8 payload.length] ++ payload) →
        (payload.length < tableSpan s.cfg.fieldTable →
          t.result = .err (.protocol .lengthMismatch)) ∧
        (tableSpan s.cfg.fieldTable ≤ payload.length →
          ∃ rec : TelemetryRecord, t.result = .ok (.decoded (.telemetry rec)) ∧
            ∀ name, rec.get name =
              fieldOfPayload s.cfg.signRepr (s.cfg.fieldTable.get name) payload))

/-- FRAME.WRITE_RSP (R84, R169): a wrong checksum is ChecksumMismatch, a right one the
acknowledgement of the echoed register and value. That performing the row is DEC.PARSE of its frame
is the model's reading of R100 (log 7, DEDUCED). -/
def Obligations.WriteRspResult : Prop :=
  ∀ (a : Byte) (r v c : Word) (s : State),
    ∃ t, exec (.frameWriteRsp a r v c) s = .next t ∧ OnlyResult s t ∧
      (c ≠ crcOf (header6 0x06 a r v) → t.result = .err (.protocol .checksumMismatch)) ∧
      (c = crcOf (header6 0x06 a r v) → t.result = .ok (.decoded (.writeAck ⟨r, v⟩)))

/-- Whatever a received frame's layout, performing it is DEC.PARSE of its bytes. This is the model's
reading of R51, R90 and R100 (log 7: DEDUCED for a response layout, DESIGN CHOICE for bytes with
none). -/
def Obligations.ReceivedFramesAreParsed : Prop :=
  ∀ (B : Bytes) (i : Instr) (s : State), decode (.rxFrame B) = .ok i →
    exec i s = exec (.decParse B) s

/-! ## Decoder -/

/-- R267: which error DEC.PARSE reports, in the order of the algorithm; encoders have one error, and
DSP.SETLOAD reports InvalidArgument before it can meet TransportWriteFailed. The floor of 5 bytes,
the comparison with TABLE_SPAN, the length check of an acknowledgement, and InvalidArgument for a
negative or otherwise unstated operand are the spec's decisions D14 (R161), D16 (R165), D15 (R170)
and D18 (R143); see log 13. -/
def Obligations.ErrorPriority : Prop :=
  (∀ (B : Bytes) (s : State), ∃ t, exec (.decParse B) s = .next t ∧ OnlyResult s t ∧
    (B.length < 5 → t.result = .err (.protocol .truncated)) ∧
    (5 ≤ B.length → crcVerifies B = false →
      t.result = .err (.protocol .checksumMismatch)) ∧
    (∀ op, 5 ≤ B.length → crcVerifies B = true → B[1]? = some op → op ≠ 3 → op ≠ 6 →
      t.result = .err (.protocol (.unknownOperation op))) ∧
    (∀ bc, 5 ≤ B.length → crcVerifies B = true → B[1]? = some 3 → B[2]? = some bc →
      (bc.toNat ≠ B.length - 5 ∨ bc.toNat < tableSpan s.cfg.fieldTable) →
      t.result = .err (.protocol .lengthMismatch)) ∧
    (5 ≤ B.length → crcVerifies B = true → B[1]? = some 6 → B.length < 8 →
      t.result = .err (.protocol .truncated)) ∧
    (crcVerifies B = true → B[1]? = some 6 → 8 < B.length →
      t.result = .err (.protocol .lengthMismatch))) ∧
  (∀ (a r v : Int) (s t : State) (e : ErrorKind),
    (exec (.encRead a r v) s = .next t ∨ exec (.encWrite a r v) s = .next t) →
    t.result = .err e → e = .encode .invalidArgument) ∧
  (∀ (v : Int) (s : State), ¬ (0 ≤ v ∧ v ≤ 65535) → ∃ t, exec (.dspSetload v) s = .next t ∧
    t.result = .err (.encode .invalidArgument))

/-- R166, R167, R168: the record of a telemetry frame holds, for every name, the table's scale times
the field's integer, big-endian and signed as `SIGN_REPR` says. That a signed field is read by
`SIGN_REPR` and that the scale multiplies are the spec's decisions D12 and D13. -/
def Obligations.TelemetryFields : Prop :=
  ∀ (B : Bytes) (bc : Byte) (s : State), 5 ≤ B.length → crcVerifies B = true →
    B[1]? = some 3 → B[2]? = some bc → bc.toNat = B.length - 5 →
    tableSpan s.cfg.fieldTable ≤ bc.toNat →
    ∃ (t : State) (rec : TelemetryRecord), exec (.decParse B) s = .next t ∧ OnlyResult s t ∧
      t.result = .ok (.decoded (.telemetry rec)) ∧
      ∀ name, rec.get name =
        fieldOfPayload s.cfg.signRepr (s.cfg.fieldTable.get name) (B.drop 3)

/-- R169: a verified 8-byte frame with operation code 6 gives the two big-endian fields at bytes 2
and 4, from any device address (R172). -/
def Obligations.AckFields : Prop :=
  ∀ (a r1 r0 v1 v0 c0 c1 : Byte) (s : State),
    crcVerifies [a, 0x06, r1, r0, v1, v0, c0, c1] = true →
    ∃ (t : State) (w : WriteAck),
      exec (.decParse [a, 0x06, r1, r0, v1, v0, c0, c1]) s = .next t ∧ OnlyResult s t ∧
      t.result = .ok (.decoded (.writeAck w)) ∧
      w.registerAddress.toNat = 256 * r1.toNat + r0.toNat ∧
      w.value.toNat = 256 * v1.toNat + v0.toNat

/-- R173: DEC.PARSE gives the same result in every state of one configuration and writes no
register. -/
def Obligations.ParseReadsNoState : Prop :=
  ∀ (B : Bytes) (s s' : State), s'.cfg = s.cfg →
    ∃ t t', exec (.decParse B) s = .next t ∧ exec (.decParse B) s' = .next t' ∧
      t.result = t'.result ∧ OnlyResult s t ∧ OnlyResult s' t'

/-- The source's end-to-end scenario (R175 (d)): 34 payload bytes whose battery percentage field
encodes 100 unscaled give a record with `battery_percentage = 100`, under every table that fits. -/
def Obligations.BatteryPercentageScenario : Prop :=
  ∀ (payload : Bytes) (s : State), payload.length = 34 →
    tableSpan s.cfg.fieldTable ≤ 34 →
    s.cfg.fieldTable.battery_percentage.scale = 1 →
    ube ((payload.drop s.cfg.fieldTable.battery_percentage.offset).take
      s.cfg.fieldTable.battery_percentage.width) = 100 →
    ∃ (t : State) (rec : TelemetryRecord),
      exec (.decParse (crcAppended ([0xFF, 0x03, 34] ++ payload))) s = .next t ∧
      t.result = .ok (.decoded (.telemetry rec)) ∧ rec.battery_percentage = 100

/-! ## Poll timer -/

/-- TICK (R204), the spec's stand-in for a fake clock (decision D10). -/
def Obligations.TickEffect : Prop :=
  ∀ s : State, ∃ t, exec .tick s = .next t ∧
    (s.psState = .Armed ∧ 0 < s.psCount → t.psCount = s.psCount - 1) ∧
    (¬ (s.psState = .Armed ∧ 0 < s.psCount) → t.psCount = s.psCount) ∧
    t.psState = s.psState ∧ t.psInterval = s.psInterval ∧ t.psActive = s.psActive ∧
    t.psOnfire = s.psOnfire ∧ SameSession s t ∧ SameSurroundings s t ∧ t.trace = s.trace

/-- PS.START in Idle or Armed (R201): whatever the old count, one timer is armed with the full
interval, and nothing is emitted. -/
def Obligations.PsStartArms : Prop :=
  ∀ (n : Int) (f : OnFire) (s : State), 1 ≤ n → (s.psState = .Idle ∨ s.psState = .Armed) →
    ∃ t, exec (.psStart n f) s = .next t ∧ (t.psInterval : Int) = n ∧ t.psOnfire = f ∧
      (t.psCount : Int) = n * s.cfg.ticksPerSecond ∧ t.psActive = true ∧ t.psState = .Armed ∧
      SameSession s t ∧ SameSurroundings s t ∧ t.trace = s.trace

/-- R202: PS.START on a stopped scheduler changes nothing, and only DSP.READY leaves Stopped (the
spec's decision D19). -/
def Obligations.StoppedIsTerminal : Prop :=
  (∀ (n : Int) (f : OnFire) (s : State), 1 ≤ n → s.psState = .Stopped →
    ∃ t, exec (.psStart n f) s = .next t ∧ OnlyResult s t) ∧
  (∀ (i : Instr) (s t : State), s.psState = .Stopped → exec i s = .next t →
    t.psState ≠ .Stopped → i = .dspReady)

/-- R203: PS.START with an interval below 1 is refused (the spec's decision D20), in every state,
Stopped too (the model's choice, log 15). -/
def Obligations.PsStartBelowOneRefused : Prop :=
  ∀ (n : Int) (f : OnFire) (s : State), n < 1 →
    exec (.psStart n f) s = .refused .intervalBelowOne

/-- R206, R207: an enabled PS.FIRE invokes its action once, a failed write surfaces as ERR, and it
re-arms for another full interval while `PS_ACTIVE` is 1. That the re-arm is guarded by `PS_ACTIVE`
is the spec's decision D22 (R207; log 12, log 13). -/
def Obligations.PsFireEffect : Prop :=
  ∀ s : State, s.psState = .Armed → s.psCount = 0 →
    ∃ t, exec .psFire s = .next t ∧
      (s.psOnfire = .HostStrobe → t.trace = s.trace ++ [.hostFire]) ∧
      (s.psOnfire = .ReadCycle → s.txAnswer = .ok →
        t.trace = s.trace ++ [.txWrite (pollRequest s.cfg)]) ∧
      (s.psOnfire = .ReadCycle → s.txAnswer = .fail →
        t.trace = s.trace ++
          [.txWrite (pollRequest s.cfg), .err .transportWriteFailed]) ∧
      t.psState = .Armed ∧
      (s.psActive = true → t.psCount = s.psInterval * s.cfg.ticksPerSecond) ∧
      (s.psActive = false → t.psCount = 0) ∧
      t.psInterval = s.psInterval ∧ t.psActive = s.psActive ∧ t.psOnfire = s.psOnfire ∧
      SameSession s t ∧ SameSurroundings s t

/-- R205: PS.FIRE is performed exactly when the timer is armed and has run down (expiry and fire are
separate steps by the spec's decision D21); otherwise it is refused (R96, the spec's decision D5).
-/
def Obligations.PsFireWhenExpired : Prop :=
  ∀ s : State,
    ((s.psState = .Armed ∧ s.psCount = 0) ↔ ∃ t, exec .psFire s = .next t) ∧
    (¬ (s.psState = .Armed ∧ s.psCount = 0) → exec .psFire s = .refused .fireNotEnabled)

/-- PS.STOP (R208), in every state, and idempotent. -/
def Obligations.PsStopEffect : Prop :=
  ∀ s : State, ∃ t, exec .psStop s = .next t ∧ t.psCount = 0 ∧ t.psActive = false ∧
    t.psState = .Stopped ∧ t.psInterval = s.psInterval ∧ t.psOnfire = s.psOnfire ∧
    SameSession s t ∧ SameSurroundings s t ∧ t.trace = s.trace ∧ exec .psStop t = .next t

/-- R212: the transition table of `PS_STATE`, every cell; its row Stopped is the spec's decision
D19. -/
def Obligations.SchedulerTransitionTable : Prop :=
  ∀ s : State,
    (∀ (n : Int) (f : OnFire) (t : State), exec (.psStart n f) s = .next t →
      (s.psState = .Stopped → t.psState = .Stopped ∧ t.psCount = s.psCount) ∧
      (s.psState ≠ .Stopped → t.psState = .Armed ∧
        (t.psCount : Int) = n * s.cfg.ticksPerSecond)) ∧
    (∀ t, exec .tick s = .next t → t.psState = s.psState ∧
      t.psCount = if s.psState = .Armed ∧ 0 < s.psCount then s.psCount - 1 else s.psCount) ∧
    (∀ t, exec .psFire s = .next t → s.psState = .Armed ∧ s.psCount = 0 ∧
      t.psState = .Armed ∧
      (s.psActive = true → t.psCount = s.psInterval * s.cfg.ticksPerSecond)) ∧
    (∀ t, exec .psStop s = .next t → t.psState = .Stopped) ∧
    (∀ t, exec .dspDisconnect s = .next t → t.psState = .Stopped) ∧
    (∀ t, s.slotConnected = .Default → exec .dspReady s = .next t → t.psState = .Armed ∧
      t.psCount = s.cfg.pollInterval * s.cfg.ticksPerSecond)

/-- After a stop no fire ever happens: whatever operations are performed, but for the DSP.READY that
starts polling (under a custom slot DSP.READY may be among them), the scheduler stays stopped, none
of them is a PS.FIRE, and no strobe or timer error is emitted (R208, R236, R275). That a PS.START
after the stop arms nothing is the spec's decision D19 (R202). -/
def Obligations.NothingFiresAfterStop : Prop :=
  ∀ (ops : List Instr) (s t : State), s.psState = .Stopped →
    (s.slotConnected = .Default → Instr.dspReady ∉ ops) →
    execAll ops s = some t →
    t.psState = .Stopped ∧ Instr.psFire ∉ ops ∧
      ∃ out, t.trace = s.trace ++ out ∧ Output.hostFire ∉ out ∧ ∀ e, Output.err e ∉ out

/-- Between two fires at least the whole remaining count of TICKs is counted, whatever other
operations come between (R66, R210), unless the timer is started again: by PS.START, or by DSP.READY
under the default slot. That a fire waits for the count of TICKs is the spec's decisions D10 and
D21. -/
def Obligations.NoFireBeforeCountRunsDown : Prop :=
  ∀ (ops : List Instr) (s t u : State), s.psState = .Armed →
    (∀ n f, Instr.psStart n f ∉ ops) → (s.slotConnected = .Default → Instr.dspReady ∉ ops) →
    Instr.psFire ∉ ops → execAll ops s = some t → exec .psFire t = .next u →
    s.psCount ≤ ops.count .tick

/-- R209 (derived by the spec; TICK and the immediate fire are its decisions D10 and D21): after
PS.START, `k` TICKs with each enabled PS.FIRE performed at once give exactly `floor(k / (interval *
TICKS_PER_SECOND))` fires, strobes or read cycles, and a second PS.START right after the first
changes nothing of this. -/
def Obligations.FiresPerTicks : Prop :=
  ∀ (n k : Nat) (f : OnFire) (s a b : State), 1 ≤ n → s.psState ≠ .Stopped →
    exec (.psStart n f) s = .next a → exec (.psStart n f) a = .next b →
    ∃ t u, tickRounds k a = some t ∧ tickRounds k b = some u ∧ t = u ∧
      (f = .HostStrobe → t.trace = s.trace ++
        List.replicate (k / (n * s.cfg.ticksPerSecond)) .hostFire) ∧
      (f = .ReadCycle → s.txAnswer = .ok → t.trace = s.trace ++
        List.replicate (k / (n * s.cfg.ticksPerSecond)) (.txWrite (pollRequest s.cfg))) ∧
      (f = .ReadCycle → s.txAnswer = .fail → t.trace = s.trace ++
        (List.replicate (k / (n * s.cfg.ticksPerSecond))
          [.txWrite (pollRequest s.cfg), .err .transportWriteFailed]).flatten) ∧
      t.psCount = n * s.cfg.ticksPerSecond - k % (n * s.cfg.ticksPerSecond)

/-- The timer invariant (R22, R23, R24 with decision D23, R26) is kept by every step, from every
state. -/
def Obligations.TimerInvariantKept : Prop :=
  ∀ s t : State, TimerOk s → step s = .next t → TimerOk t

/-- Both invariants hold after reset. The timer's clause on `PS_INTERVAL` rests on the model's
choice of its reset value (log 1). -/
def Obligations.InvariantsHoldAtReset : Prop := TimerOk State.reset ∧ SentOk State.reset

/-- R26, with `TIMERS` kept as a multiset of its own beside the state, which arming adds to and
cancelling empties: over every run from a state with the timer invariant, at most one timer is
alive, one exactly when Armed, and it is the one whose remaining count `PS_COUNT` holds. (That
Stopped is left by DSP.READY only is the spec's decision D19.) -/
def Obligations.AtMostOneTimer : Prop :=
  ∀ (ops : List Instr) (s t : State) (T : List Nat), TimerOk s →
    execAllTimers ops s (timers s) = some (t, T) →
    T.length ≤ 1 ∧ (T.length = 1 ↔ t.psState = .Armed) ∧
      (t.psState = .Armed → T = [t.psCount])

/-! ## Dispatcher -/

/-- DSP.READY (R231, R232): connected; by default a full poll interval is armed, from Stopped
through a new session (decision D19); with a custom slot the scheduler is not touched. -/
def Obligations.DspReadyEffect : Prop :=
  ∀ s : State, ∃ t, exec .dspReady s = .next t ∧ t.conn = .Ready ∧
    t.trace = s.trace ++ [.sinkConnected] ∧ t.lastRecord = s.lastRecord ∧
    SameSurroundings s t ∧
    (s.slotConnected = .Custom → SameScheduler s t) ∧
    (s.slotConnected = .Default → t.psState = .Armed ∧ t.psActive = true ∧
      t.psInterval = s.cfg.pollInterval ∧ t.psOnfire = .ReadCycle ∧
      t.psCount = s.cfg.pollInterval * s.cfg.ticksPerSecond)

/-- DSP.READCYCLE (R233): one read request of the configured address, register and word count is
handed over whatever the transport answers; the answer is the result; no state is written. -/
def Obligations.DspReadcycleEffect : Prop :=
  ∀ s : State, ∃ (t e : State) (F : Bytes), exec .dspReadcycle s = .next t ∧
    exec (.encRead s.cfg.deviceAddress.toNat s.cfg.readRegister.toNat
      s.cfg.readWordcount.toNat) s = .next e ∧ e.result = .ok (.frame F) ∧
    t.trace = s.trace ++ [.txWrite F] ∧ SameState s t ∧
    (s.txAnswer = .ok → t.result = .ok .unit) ∧
    (s.txAnswer = .fail → t.result = .err (.transport .transportWriteFailed))

/-- DSP.NOTIFY (R234): what DEC.PARSE answers is retained and forwarded, forwarded, or logged and
dropped. That a telemetry record is the one thing retained (R28) and that the data slot may be
unbound (R30) are the spec's decisions D26 and D25 (log 13). -/
def Obligations.DspNotifyEffect : Prop :=
  ∀ (B : Bytes) (s : State), ∃ t p, exec (.dspNotify B) s = .next t ∧
    exec (.decParse B) s = .next p ∧ SameScheduler s t ∧ t.conn = s.conn ∧
    SameSurroundings s t ∧
    (∀ rec, p.result = .ok (.decoded (.telemetry rec)) → t.lastRecord = some rec ∧
      (s.slotData = .Bound → t.trace = s.trace ++ [.sinkData (.telemetry rec)]) ∧
      (s.slotData = .Unbound → t.trace = s.trace)) ∧
    (∀ w, p.result = .ok (.decoded (.writeAck w)) → t.lastRecord = s.lastRecord ∧
      (s.slotData = .Bound → t.trace = s.trace ++ [.sinkData (.writeAck w)]) ∧
      (s.slotData = .Unbound → t.trace = s.trace)) ∧
    (∀ e, p.result = .err (.protocol e) → t.lastRecord = s.lastRecord ∧
      t.trace = s.trace ++ [.log (severity e) e])

/-- DSP.SETLOAD (R235): in range one write request to the load register, whatever `PS_STATE` and
`CONN` are; out of range InvalidArgument and nothing sent; no state is written. That a negative
value is out of range is the spec's decision D18 (R143, log 13). -/
def Obligations.DspSetloadEffect : Prop :=
  ∀ (v : Int) (s : State),
    ((0 ≤ v ∧ v ≤ 65535) → ∃ (t e : State) (F : Bytes), exec (.dspSetload v) s = .next t ∧
      exec (.encWrite s.cfg.deviceAddress.toNat s.cfg.loadRegister.toNat v) s = .next e ∧
      e.result = .ok (.frame F) ∧ t.trace = s.trace ++ [.txWrite F] ∧ SameState s t ∧
      (s.txAnswer = .ok → t.result = .ok .unit) ∧
      (s.txAnswer = .fail → t.result = .err (.transport .transportWriteFailed))) ∧
    (¬ (0 ≤ v ∧ v ≤ 65535) → ∃ t, exec (.dspSetload v) s = .next t ∧ OnlyResult s t ∧
      t.result = .err (.encode .invalidArgument))

/-- DSP.DISCONNECT (R236): the timer is cancelled unconditionally, the record released (decision
D26), the slots survive, and a second one changes nothing. -/
def Obligations.DspDisconnectEffect : Prop :=
  ∀ s : State, ∃ t, exec .dspDisconnect s = .next t ∧ t.psCount = 0 ∧ t.psActive = false ∧
    t.psState = .Stopped ∧ t.conn = .Disconnected ∧ t.lastRecord = none ∧
    t.psInterval = s.psInterval ∧ t.psOnfire = s.psOnfire ∧ SameSurroundings s t ∧
    t.trace = s.trace ∧ exec .dspDisconnect t = .next t

/-- R314: a disconnect followed by a ready brings the scheduler back with a full count, without a
record, under the same configuration (the fresh session is the spec's decision D19). -/
def Obligations.ReconnectStartsAfresh : Prop :=
  ∀ s : State, s.slotConnected = .Default → ∃ t, execAll [.dspDisconnect, .dspReady] s = some t ∧
    t.psState = .Armed ∧ t.psCount = s.cfg.pollInterval * s.cfg.ticksPerSecond ∧
    t.conn = .Ready ∧ t.lastRecord = none ∧ SameSurroundings s t

/-- R240 (the spec's decision D27): no operation reads `CONN`. With another connection state every
operation is performed or refused alike, and leaves the same state but for `CONN` itself. -/
def Obligations.ConnIsNeverRead : Prop :=
  ∀ (i : Instr) (s : State) (c : Conn),
    (∀ t, exec i s = .next t → ∃ t', exec i { s with conn := c } = .next t' ∧
      { t' with conn := t.conn } = t ∧ (t'.conn = c ∨ t'.conn = t.conn)) ∧
    (∀ r, exec i s = .refused r → exec i { s with conn := c } = .refused r)

/-- R28: `LAST_RECORD` is none after reset, written by a DSP.NOTIFY of telemetry, cleared by
DSP.DISCONNECT (decision D26), kept by every other operation, and read by none. -/
def Obligations.LastRecordLaw : Prop :=
  State.reset.lastRecord = none ∧
  (∀ (i : Instr) (s t : State), exec i s = .next t →
    t.lastRecord = s.lastRecord ∨
    (i = .dspDisconnect ∧ t.lastRecord = none) ∨
    (∃ (B : Bytes) (p : State) (rec : TelemetryRecord), i = .dspNotify B ∧
      exec (.decParse B) s = .next p ∧ p.result = .ok (.decoded (.telemetry rec)) ∧
      t.lastRecord = some rec)) ∧
  (∀ (B : Bytes) (s t p : State) (rec : TelemetryRecord), exec (.dspNotify B) s = .next t →
    exec (.decParse B) s = .next p → p.result = .ok (.decoded (.telemetry rec)) →
    t.lastRecord = some rec) ∧
  (∀ s t : State, exec .dspDisconnect s = .next t → t.lastRecord = none) ∧
  (∀ (i : Instr) (s t : State) (r : Option TelemetryRecord), exec i s = .next t →
    ∃ t', exec i { s with lastRecord := r } = .next t' ∧
      { t' with lastRecord := t.lastRecord } = t)

/-! ## The whole machine -/

/-- The reset state (R311): the values the spec gives; no timer, no event pending, nothing
emitted. -/
def Obligations.ResetValues : Prop :=
  State.reset.psState = .Idle ∧ State.reset.psCount = 0 ∧ State.reset.psActive = false ∧
    State.reset.conn = .Disconnected ∧ State.reset.lastRecord = none ∧
    State.reset.slotConnected = .Default ∧ State.reset.slotData = .Bound ∧
    State.reset.trace = [] ∧ timers State.reset = [] ∧ fireEnabled State.reset = false

/-- R23, R25, R311: `PS_INTERVAL` and `PS_ONFIRE`, unspecified at reset, are not read before a
PS.START writes them. With other values in them, in a state that is not Armed, every operation does
the same, and once it arms the timer the two states are equal. The values the model names for them
at reset (log 1, log 2) therefore cannot be observed. -/
def Obligations.UnspecifiedRegistersUnread : Prop :=
  ∀ (i : Instr) (s : State) (n : Nat) (f : OnFire), s.psState ≠ .Armed →
    (∀ t, exec i s = .next t →
      ∃ t', exec i { s with psInterval := n, psOnfire := f } = .next t' ∧
        { t' with psInterval := t.psInterval, psOnfire := t.psOnfire } = t ∧
        (t.psState = .Armed → t' = t)) ∧
    (∀ r, exec i s = .refused r →
      exec i { s with psInterval := n, psOnfire := f } = .refused r)

/-- R29, R30, R71: no step writes a sink slot or the configuration. -/
def Obligations.BootValuesNeverChange : Prop :=
  ∀ s t : State, step s = .next t →
    t.cfg = s.cfg ∧ t.slotConnected = s.slotConnected ∧ t.slotData = s.slotData

/-- R33: outputs are only ever appended to the trace. -/
def Obligations.TraceOnlyGrows : Prop :=
  ∀ s t : State, step s = .next t → ∃ out, t.trace = s.trace ++ out

/-- R145: every frame handed to the transport is an 8-byte request with operation code 3 or 6 that
verifies; every step keeps this, from every state. -/
def Obligations.SentFramesStayValid : Prop :=
  ∀ s t : State, SentOk s → step s = .next t → SentOk t

/-- R268: an operation that ends with `Err(kind)` has written no state; its only output, if any, is
the transport write that failed. -/
def Obligations.ErrorsWriteNoState : Prop :=
  ∀ (i : Instr) (s t : State) (e : ErrorKind), exec i s = .next t → t.result = .err e →
    SameState s t ∧
    (t.trace = s.trace ∨
      ∃ F, t.trace = s.trace ++ [.txWrite F] ∧ e = .transport .transportWriteFailed)

/-- R270: `UnknownOperation` is logged at low severity, the other decode errors at normal (the
spec's decision D29). -/
def Obligations.LogSeverity : Prop :=
  (∀ c, severity (.unknownOperation c) = .low) ∧ severity .truncated = .normal ∧
    severity .checksumMismatch = .normal ∧ severity .lengthMismatch = .normal

/-- R272, R214: no decode error and no failing write stops polling. Only PS.STOP and DSP.DISCONNECT
leave Armed. -/
def Obligations.OnlyStopsLeaveArmed : Prop :=
  ∀ (i : Instr) (s t : State), s.psState = .Armed → exec i s = .next t → t.psState ≠ .Armed →
    i = .psStop ∨ i = .dspDisconnect

/-- R56, R57: MemWrite then MemRead at the same place gives the value, changes no other byte, and
keeps the frame's length. -/
def Obligations.MemReadAfterMemWrite : Prop :=
  ∀ (F : Bytes) (addr n v : Nat), addr + n ≤ F.length → v < 2 ^ (8 * n) →
    memRead (memWrite F addr n v) addr n = v ∧ (memWrite F addr n v).length = F.length ∧
    ∀ i, i < addr ∨ addr + n ≤ i → (memWrite F addr n v)[i]? = F[i]?

/-- R57: the header of a request is what MemWrites of its four fields, each index once, leave in the
TX frame. -/
def Obligations.HeaderIsMemWritten : Prop :=
  ∀ (F : Bytes) (op a : Byte) (r v : Word), F.length = 6 →
    memWrite (memWrite (memWrite (memWrite F 0 1 a.toNat) 1 1 op.toNat) 2 2 r.toNat) 4 2 v.toNat =
      header6 op a r v

/-- R93 (the spec's decision D11): a raw field table is accepted exactly when it has one entry of
each name, every width is at least 1 and every entry ends within 255 bytes; an accepted table holds
those entries. -/
def Obligations.FieldTableCheck : Prop :=
  ∀ rows : List RawEntry,
    ((∃ table, loadFieldTable rows = .ok table) ↔
      (∀ name, ∃ e, rows.filter (fun e => e.name == name) = [e] ∧ 1 ≤ e.width ∧
        e.offset + e.width ≤ 255)) ∧
    (∀ table, loadFieldTable rows = .ok table → ∀ e ∈ rows,
      (table.get e.name).offset = e.offset ∧ (table.get e.name).width = e.width ∧
        (table.get e.name).scale = e.scale ∧ (table.get e.name).signed = e.signed)
end

