-- ==== Sys2Proof/Laws/Bytes.lean ====
section
/-! SUPPORT. Laws of byte order, frame access and the checksum (rules R12 to R14, R54 to R57,
R122 to R125). -/

namespace Sys2Proof.Machine

@[simp] theorem be16_length (v : Word) : (be16 v).length = 2 := rfl
@[simp] theorem le16_length (v : Word) : (le16 v).length = 2 := rfl

theorem wordOf_toNat (hi lo : Byte) : (wordOf hi lo).toNat = 256 * hi.toNat + lo.toNat := by
  have h : (wordOf hi lo).toNat = hi.toNat <<< 8 ||| lo.toNat := BitVec.toNat_append hi lo
  rw [h, ← Nat.shiftLeft_add_eq_or_of_lt lo.isLt, Nat.shiftLeft_eq]
  omega

theorem hiByte_toNat (v : Word) : (hiByte v).toNat = v.toNat / 256 := by
  have h := v.isLt
  simp [hiByte, BitVec.extractLsb'_toNat, Nat.shiftRight_eq_div_pow]
  omega

theorem loByte_toNat (v : Word) : (loByte v).toNat = v.toNat % 256 := by
  simp [loByte, BitVec.extractLsb'_toNat]

/-- The two bytes of a word give it back (R86). -/
@[simp] theorem wordOf_bytes (v : Word) : wordOf (hiByte v) (loByte v) = v := by
  apply BitVec.eq_of_toNat_eq
  rw [wordOf_toNat, hiByte_toNat, loByte_toNat]
  omega

@[simp] theorem hiByte_wordOf (hi lo : Byte) : hiByte (wordOf hi lo) = hi := by
  have h := lo.isLt
  apply BitVec.eq_of_toNat_eq
  rw [hiByte_toNat, wordOf_toNat]
  omega

@[simp] theorem loByte_wordOf (hi lo : Byte) : loByte (wordOf hi lo) = lo := by
  have h := lo.isLt
  apply BitVec.eq_of_toNat_eq
  rw [loByte_toNat, wordOf_toNat]
  omega

@[simp] theorem ube_nil : ube [] = 0 := rfl

/-- `ube(X ++ [b]) = 256 * ube(X) + b` (R13). -/
@[simp] theorem ube_snoc (X : Bytes) (b : Byte) : ube (X ++ [b]) = 256 * ube X + b.toNat := by
  simp [ube]

/-- A MemRead of `n` bytes is below `2^(8n)` (R56). -/
theorem ube_lt (X : Bytes) : ube X < 2 ^ (8 * X.length) := by
  induction X using List.reverseRecOn with
  | nil => simp
  | append_singleton X b ih =>
    have h := b.isLt
    rw [ube_snoc, List.length_append, List.length_singleton, Nat.mul_add, Nat.pow_add]
    omega

theorem slice_length (B : Bytes) {i j : Nat} (h : j ≤ B.length) : (slice B i j).length = j - i := by
  simp [slice]
  omega

@[simp] theorem beBytes_length (n v : Nat) : (beBytes n v).length = n := by
  induction n generalizing v with
  | zero => rfl
  | succ n ih => simp [beBytes, ih]

/-- The big-endian form of a value that fits has that value (R57). -/
theorem ube_beBytes (n v : Nat) (h : v < 2 ^ (8 * n)) : ube (beBytes n v) = v := by
  induction n generalizing v with
  | zero => simp at h; simp [beBytes, h]
  | succ n ih =>
    rw [Nat.mul_add, Nat.pow_add] at h
    simp only [beBytes, ube_snoc, BitVec.toNat_ofNat]
    rw [ih (v / 256) (by omega)]
    omega

@[simp] theorem crcFrom_nil (c : Word) : crcFrom c [] = c := rfl

theorem crcFrom_append (c : Word) (X Y : Bytes) :
    crcFrom c (X ++ Y) = crcFrom (crcFrom c X) Y := by
  simp [crcFrom]

/-- The register takes the bytes one after another (R122). -/
theorem crcOf_snoc (X : Bytes) (b : Byte) : crcOf (X ++ [b]) = crcByte (crcOf X) b := by
  simp [crcOf, crcFrom]

@[simp] theorem crcAppended_length (X : Bytes) : (crcAppended X).length = X.length + 2 := by
  simp [crcAppended]

/-- CRC.VERIFY of a body and two stored bytes (R123). -/
theorem crcVerifies_append (X : Bytes) (b0 b1 : Byte) :
    crcVerifies (X ++ [b0, b1]) = (crcOf X == ule16 b0 b1) := by
  have h : ¬ (X ++ [b0, b1]).length < 2 := by simp
  simp [crcVerifies, storedCrc, byteAt]

/-- Every byte sequence of length at least 2 is a body and two stored bytes. -/
theorem exists_body_stored {B : Bytes} (h : 2 ≤ B.length) : ∃ X b0 b1, B = X ++ [b0, b1] := by
  obtain ⟨X, b1, rfl⟩ := List.eq_nil_or_concat B |>.resolve_left (by rintro rfl; simp at h)
  obtain ⟨Y, b0, rfl⟩ := List.eq_nil_or_concat X |>.resolve_left (by rintro rfl; simp at h)
  exact ⟨Y, b0, b1, by simp⟩

@[simp] theorem header6_length (op a : Byte) (r v : Word) : (header6 op a r v).length = 6 := rfl

theorem frame8_bytes (op a : Byte) (r v c : Word) :
    frame8 op a r v c =
      [a, op, hiByte r, loByte r, hiByte v, loByte v, loByte c, hiByte c] := rfl

@[simp] theorem requestFrame_length (op a : Byte) (r v : Word) :
    (requestFrame op a r v).length = 8 := rfl

/-- A request is the 8-byte frame with the checksum of its header (R81, R82). -/
theorem requestFrame_eq_frame8 (op a : Byte) (r v : Word) :
    requestFrame op a r v = frame8 op a r v (header6Crc op a r v) := rfl

/-- In range an encoder answers the frame (R140, R141). -/
theorem encodeRequest_inRange {op : Byte} {a r v : Int} (ha : 0 ≤ a ∧ a ≤ 255)
    (hr : 0 ≤ r ∧ r ≤ 65535) (hv : 0 ≤ v ∧ v ≤ 65535) :
    encodeRequest op a r v =
      .ok (requestFrame op (BitVec.ofInt 8 a) (BitVec.ofInt 16 r) (BitVec.ofInt 16 v)) := by
  simp [encodeRequest, fitsByte, fitsWord, ha, hr, hv]

/-- Out of range an encoder answers InvalidArgument (R142, R143). -/
theorem encodeRequest_outOfRange {op : Byte} {a r v : Int}
    (h : ¬ ((0 ≤ a ∧ a ≤ 255) ∧ (0 ≤ r ∧ r ≤ 65535) ∧ (0 ≤ v ∧ v ≤ 65535))) :
    encodeRequest op a r v = .err .invalidArgument := by
  rw [encodeRequest, if_neg]
  simpa [fitsByte, fitsWord, and_assoc] using h

/-- Operands that are fields of the frame are in range (R241). -/
theorem encodeRequest_fields (op a : Byte) (r v : Word) :
    encodeRequest op a.toNat r.toNat v.toNat = .ok (requestFrame op a r v) := by
  rw [encodeRequest_inRange (by have := a.isLt; omega) (by have := r.isLt; omega)
    (by have := v.isLt; omega)]
  simp

/-- What an encoder's answer is built from. -/
theorem encodeRequest_ok {op : Byte} {a r v : Int} {frame : Bytes}
    (h : encodeRequest op a r v = .ok frame) :
    (0 ≤ a ∧ a ≤ 255) ∧ (0 ≤ r ∧ r ≤ 65535) ∧ (0 ≤ v ∧ v ≤ 65535) ∧
      frame = requestFrame op (BitVec.ofInt 8 a) (BitVec.ofInt 16 r) (BitVec.ofInt 16 v) := by
  by_cases hin : (0 ≤ a ∧ a ≤ 255) ∧ (0 ≤ r ∧ r ≤ 65535) ∧ (0 ≤ v ∧ v ≤ 65535)
  · rw [encodeRequest_inRange hin.1 hin.2.1 hin.2.2] at h
    exact ⟨hin.1, hin.2.1, hin.2.2, by simpa using h.symm⟩
  · rw [encodeRequest_outOfRange hin] at h
    exact nomatch h

/-- DEC.PARSE with its constants written out (R6, R161, R174). -/
theorem parse_eq (cfg : Config) (B : Bytes) :
    parse cfg B =
      if B.length < 5 then .err .truncated
      else if !crcVerifies B then .err .checksumMismatch
      else if byteAt B 1 = 3 then parseTelemetry cfg B
      else if byteAt B 1 = 6 then parseAck B
      else .err (.unknownOperation (byteAt B 1)) := rfl

/-- DEC.PARSE's result, by cases (R174): which step decides it. -/
theorem parse_cases (cfg : Config) (B : Bytes) :
    (B.length < 5 ∧ parse cfg B = .err .truncated) ∨
    (5 ≤ B.length ∧ crcVerifies B = false ∧ parse cfg B = .err .checksumMismatch) ∨
    (5 ≤ B.length ∧ crcVerifies B = true ∧ byteAt B 1 = 3 ∧
      parse cfg B = parseTelemetry cfg B) ∨
    (5 ≤ B.length ∧ crcVerifies B = true ∧ byteAt B 1 = 6 ∧ parse cfg B = parseAck B) ∨
    (5 ≤ B.length ∧ crcVerifies B = true ∧ byteAt B 1 ≠ 3 ∧ byteAt B 1 ≠ 6 ∧
      parse cfg B = .err (.unknownOperation (byteAt B 1))) := by
  have hp := parse_eq cfg B
  by_cases h1 : B.length < 5
  · exact .inl ⟨h1, by rw [hp, if_pos h1]⟩
  · rw [if_neg h1] at hp
    cases h2 : crcVerifies B
    · exact .inr (.inl ⟨by omega, rfl, by simpa [h2] using hp⟩)
    · by_cases h3 : byteAt B 1 = 3
      · exact .inr (.inr (.inl ⟨by omega, rfl, h3, by simpa [h2, h3] using hp⟩))
      · by_cases h6 : byteAt B 1 = 6
        · exact .inr (.inr (.inr (.inl ⟨by omega, rfl, h6, by
          rw [hp, h2, if_neg (by simp), if_neg h3, if_pos h6]⟩)))
        · exact .inr (.inr (.inr (.inr ⟨by omega, rfl, h3, h6, by
            rw [hp, h2, if_neg (by simp), if_neg h3, if_neg h6]⟩)))

end Sys2Proof.Machine
end

