-- ==== Sys2Proof/Laws/Fields.lean ====
section
/-! SUPPORT. Laws of the 21-field records and of the field table (rules R37, R91 to R93),
and the defaults of the configuration (R8, R9). -/

namespace Sys2Proof

theorem FieldName.mem_all (name : FieldName) : name ∈ FieldName.all := by
  cases name <;> decide

theorem FieldName.all_length : FieldName.all.length = 21 := by decide

theorem FieldName.all_nodup : FieldName.all.Nodup := by decide

@[simp] theorem PerField.get_ofFn {α : Type} (f : FieldName → α) (name : FieldName) :
    (PerField.ofFn f).get name = f name := by
  cases name <;> rfl

@[simp] theorem PerField.get_map {α β : Type} (f : α → β) (p : PerField α) (name : FieldName) :
    (p.map f).get name = f (p.get name) := by
  simp [PerField.map]

/-- Two records with the same value under every name are equal. -/
theorem PerField.ext_get {α : Type} {p q : PerField α} (h : ∀ name, p.get name = q.get name) :
    p = q := by
  cases p
  cases q
  simp only [PerField.mk.injEq]
  exact ⟨h .battery_percentage, h .battery_voltage, h .battery_current,
    h .controller_temperature, h .battery_temperature, h .load_status, h .load_voltage,
    h .load_current, h .load_power, h .pv_voltage, h .pv_current, h .pv_power,
    h .max_charging_power_today, h .max_discharging_power_today, h .charging_amp_hours_today,
    h .discharging_amp_hours_today, h .power_generation_today, h .power_consumption_today,
    h .power_consumption_total, h .power_generation_total, h .charging_status⟩

namespace Machine

theorem foldl_max_ge (l : List Nat) (a : Nat) : a ≤ l.foldl max a ∧ ∀ x ∈ l, x ≤ l.foldl max a := by
  induction l generalizing a with
  | nil => simp
  | cons y l ih =>
    have h := ih (max a y)
    simp only [List.foldl_cons, List.mem_cons, forall_eq_or_imp]
    exact ⟨by omega, by omega, h.2⟩

theorem foldl_max_le (l : List Nat) (a b : Nat) (ha : a ≤ b) (h : ∀ x ∈ l, x ≤ b) :
    l.foldl max a ≤ b := by
  induction l generalizing a with
  | nil => simpa using ha
  | cons y l ih =>
    simp only [List.mem_cons, forall_eq_or_imp] at h
    exact ih (max a y) (by omega) h.2

/-- Every field of the table lies within `TABLE_SPAN` (R93, R165). -/
theorem field_within_span (t : FieldTable) (name : FieldName) :
    (t.get name).offset + (t.get name).width ≤ tableSpan t :=
  (foldl_max_ge _ 0).2 _ (by
    simp only [PerField.toList, List.map_map, List.mem_map, Function.comp]
    exact ⟨name, FieldName.mem_all name, rfl⟩)

/-- `1 <= TABLE_SPAN <= 255` for every table (R93). -/
theorem tableSpan_bounds (t : FieldTable) : 1 ≤ tableSpan t ∧ tableSpan t ≤ 255 := by
  refine ⟨?_, foldl_max_le _ _ _ (by omega) ?_⟩
  · have h1 := field_within_span t .battery_percentage
    have h2 := (t.get .battery_percentage).width_pos
    omega
  · intro x hx
    simp only [PerField.toList, List.map_map, List.mem_map, Function.comp] at hx
    obtain ⟨name, -, rfl⟩ := hx
    exact (t.get name).span_le

/-- What an unset and a given `TICKS_PER_SECOND` are loaded as (R8). -/
@[simp] theorem RawConfig.ticks_unset {raw : RawConfig} (h : raw.ticksPerSecond = none) :
    raw.ticks = 1 := by
  simp [RawConfig.ticks, h, Config.defaultTicksPerSecond]

@[simp] theorem RawConfig.ticks_given {raw : RawConfig} {n : Int}
    (h : raw.ticksPerSecond = some n) : raw.ticks = n := by
  simp [RawConfig.ticks, h]

/-- What an unset and a given `SIGN_REPR` are loaded as (R9). -/
@[simp] theorem RawConfig.repr_unset {raw : RawConfig} (h : raw.signRepr = none) :
    raw.repr = .twos_complement := by
  simp [RawConfig.repr, h, Config.defaultSignRepr]

@[simp] theorem RawConfig.repr_given {raw : RawConfig} {r : SignRepr} (h : raw.signRepr = some r) :
    raw.repr = r := by
  simp [RawConfig.repr, h]

end Machine

end Sys2Proof
end

