-- ==== Sys2Proof/Laws/State.lean ====
section
/-! SUPPORT. What each named update of the state does to each field: one lemma per field per
update, so that no proof unfolds a record update. -/

namespace Sys2Proof.Machine

variable (s : State)

@[simp] theorem State.setResult_psState (r : OpResult) : (s.setResult r).psState = s.psState := rfl
@[simp] theorem State.setResult_psCount (r : OpResult) : (s.setResult r).psCount = s.psCount := rfl
@[simp] theorem State.setResult_psInterval (r : OpResult) : (s.setResult r).psInterval = s.psInterval := rfl
@[simp] theorem State.setResult_psActive (r : OpResult) : (s.setResult r).psActive = s.psActive := rfl
@[simp] theorem State.setResult_psOnfire (r : OpResult) : (s.setResult r).psOnfire = s.psOnfire := rfl
@[simp] theorem State.setResult_conn (r : OpResult) : (s.setResult r).conn = s.conn := rfl
@[simp] theorem State.setResult_lastRecord (r : OpResult) : (s.setResult r).lastRecord = s.lastRecord := rfl
@[simp] theorem State.setResult_slotConnected (r : OpResult) : (s.setResult r).slotConnected = s.slotConnected := rfl
@[simp] theorem State.setResult_slotData (r : OpResult) : (s.setResult r).slotData = s.slotData := rfl
@[simp] theorem State.setResult_cfg (r : OpResult) : (s.setResult r).cfg = s.cfg := rfl
@[simp] theorem State.setResult_trace (r : OpResult) : (s.setResult r).trace = s.trace := rfl
@[simp] theorem State.setResult_result (r : OpResult) : (s.setResult r).result = r := rfl
@[simp] theorem State.setResult_txAnswer (r : OpResult) : (s.setResult r).txAnswer = s.txAnswer := rfl
@[simp] theorem State.setResult_pending (r : OpResult) : (s.setResult r).pending = s.pending := rfl

@[simp] theorem State.emit_psState (o : Output) : (s.emit o).psState = s.psState := rfl
@[simp] theorem State.emit_psCount (o : Output) : (s.emit o).psCount = s.psCount := rfl
@[simp] theorem State.emit_psInterval (o : Output) : (s.emit o).psInterval = s.psInterval := rfl
@[simp] theorem State.emit_psActive (o : Output) : (s.emit o).psActive = s.psActive := rfl
@[simp] theorem State.emit_psOnfire (o : Output) : (s.emit o).psOnfire = s.psOnfire := rfl
@[simp] theorem State.emit_conn (o : Output) : (s.emit o).conn = s.conn := rfl
@[simp] theorem State.emit_lastRecord (o : Output) : (s.emit o).lastRecord = s.lastRecord := rfl
@[simp] theorem State.emit_slotConnected (o : Output) : (s.emit o).slotConnected = s.slotConnected := rfl
@[simp] theorem State.emit_slotData (o : Output) : (s.emit o).slotData = s.slotData := rfl
@[simp] theorem State.emit_cfg (o : Output) : (s.emit o).cfg = s.cfg := rfl
@[simp] theorem State.emit_trace (o : Output) : (s.emit o).trace = s.trace ++ [o] := rfl
@[simp] theorem State.emit_result (o : Output) : (s.emit o).result = s.result := rfl
@[simp] theorem State.emit_txAnswer (o : Output) : (s.emit o).txAnswer = s.txAnswer := rfl
@[simp] theorem State.emit_pending (o : Output) : (s.emit o).pending = s.pending := rfl

@[simp] theorem State.arm_psState (n : Nat) (f : OnFire) : (s.arm n f).psState = .Armed := rfl
@[simp] theorem State.arm_psCount (n : Nat) (f : OnFire) : (s.arm n f).psCount = n * s.cfg.ticksPerSecond := rfl
@[simp] theorem State.arm_psInterval (n : Nat) (f : OnFire) : (s.arm n f).psInterval = n := rfl
@[simp] theorem State.arm_psActive (n : Nat) (f : OnFire) : (s.arm n f).psActive = true := rfl
@[simp] theorem State.arm_psOnfire (n : Nat) (f : OnFire) : (s.arm n f).psOnfire = f := rfl
@[simp] theorem State.arm_conn (n : Nat) (f : OnFire) : (s.arm n f).conn = s.conn := rfl
@[simp] theorem State.arm_lastRecord (n : Nat) (f : OnFire) : (s.arm n f).lastRecord = s.lastRecord := rfl
@[simp] theorem State.arm_slotConnected (n : Nat) (f : OnFire) : (s.arm n f).slotConnected = s.slotConnected := rfl
@[simp] theorem State.arm_slotData (n : Nat) (f : OnFire) : (s.arm n f).slotData = s.slotData := rfl
@[simp] theorem State.arm_cfg (n : Nat) (f : OnFire) : (s.arm n f).cfg = s.cfg := rfl
@[simp] theorem State.arm_trace (n : Nat) (f : OnFire) : (s.arm n f).trace = s.trace := rfl
@[simp] theorem State.arm_result (n : Nat) (f : OnFire) : (s.arm n f).result = s.result := rfl
@[simp] theorem State.arm_txAnswer (n : Nat) (f : OnFire) : (s.arm n f).txAnswer = s.txAnswer := rfl
@[simp] theorem State.arm_pending (n : Nat) (f : OnFire) : (s.arm n f).pending = s.pending := rfl

@[simp] theorem State.rearm_psState : (s.rearm).psState = .Armed := rfl
@[simp] theorem State.rearm_psCount : (s.rearm).psCount = s.psInterval * s.cfg.ticksPerSecond := rfl
@[simp] theorem State.rearm_psInterval : (s.rearm).psInterval = s.psInterval := rfl
@[simp] theorem State.rearm_psActive : (s.rearm).psActive = s.psActive := rfl
@[simp] theorem State.rearm_psOnfire : (s.rearm).psOnfire = s.psOnfire := rfl
@[simp] theorem State.rearm_conn : (s.rearm).conn = s.conn := rfl
@[simp] theorem State.rearm_lastRecord : (s.rearm).lastRecord = s.lastRecord := rfl
@[simp] theorem State.rearm_slotConnected : (s.rearm).slotConnected = s.slotConnected := rfl
@[simp] theorem State.rearm_slotData : (s.rearm).slotData = s.slotData := rfl
@[simp] theorem State.rearm_cfg : (s.rearm).cfg = s.cfg := rfl
@[simp] theorem State.rearm_trace : (s.rearm).trace = s.trace := rfl
@[simp] theorem State.rearm_result : (s.rearm).result = s.result := rfl
@[simp] theorem State.rearm_txAnswer : (s.rearm).txAnswer = s.txAnswer := rfl
@[simp] theorem State.rearm_pending : (s.rearm).pending = s.pending := rfl

@[simp] theorem State.cancel_psState : (s.cancel).psState = .Stopped := rfl
@[simp] theorem State.cancel_psCount : (s.cancel).psCount = 0 := rfl
@[simp] theorem State.cancel_psInterval : (s.cancel).psInterval = s.psInterval := rfl
@[simp] theorem State.cancel_psActive : (s.cancel).psActive = false := rfl
@[simp] theorem State.cancel_psOnfire : (s.cancel).psOnfire = s.psOnfire := rfl
@[simp] theorem State.cancel_conn : (s.cancel).conn = s.conn := rfl
@[simp] theorem State.cancel_lastRecord : (s.cancel).lastRecord = s.lastRecord := rfl
@[simp] theorem State.cancel_slotConnected : (s.cancel).slotConnected = s.slotConnected := rfl
@[simp] theorem State.cancel_slotData : (s.cancel).slotData = s.slotData := rfl
@[simp] theorem State.cancel_cfg : (s.cancel).cfg = s.cfg := rfl
@[simp] theorem State.cancel_trace : (s.cancel).trace = s.trace := rfl
@[simp] theorem State.cancel_result : (s.cancel).result = s.result := rfl
@[simp] theorem State.cancel_txAnswer : (s.cancel).txAnswer = s.txAnswer := rfl
@[simp] theorem State.cancel_pending : (s.cancel).pending = s.pending := rfl

@[simp] theorem State.freshSession_psState : (s.freshSession).psState = .Idle := rfl
@[simp] theorem State.freshSession_psCount : (s.freshSession).psCount = 0 := rfl
@[simp] theorem State.freshSession_psInterval : (s.freshSession).psInterval = s.psInterval := rfl
@[simp] theorem State.freshSession_psActive : (s.freshSession).psActive = false := rfl
@[simp] theorem State.freshSession_psOnfire : (s.freshSession).psOnfire = s.psOnfire := rfl
@[simp] theorem State.freshSession_conn : (s.freshSession).conn = s.conn := rfl
@[simp] theorem State.freshSession_lastRecord : (s.freshSession).lastRecord = s.lastRecord := rfl
@[simp] theorem State.freshSession_slotConnected : (s.freshSession).slotConnected = s.slotConnected := rfl
@[simp] theorem State.freshSession_slotData : (s.freshSession).slotData = s.slotData := rfl
@[simp] theorem State.freshSession_cfg : (s.freshSession).cfg = s.cfg := rfl
@[simp] theorem State.freshSession_trace : (s.freshSession).trace = s.trace := rfl
@[simp] theorem State.freshSession_result : (s.freshSession).result = s.result := rfl
@[simp] theorem State.freshSession_txAnswer : (s.freshSession).txAnswer = s.txAnswer := rfl
@[simp] theorem State.freshSession_pending : (s.freshSession).pending = s.pending := rfl

@[simp] theorem State.countDown_psState : (s.countDown).psState = s.psState := rfl
@[simp] theorem State.countDown_psCount : (s.countDown).psCount = if s.psState = .Armed ∧ 0 < s.psCount then s.psCount - 1 else s.psCount := rfl
@[simp] theorem State.countDown_psInterval : (s.countDown).psInterval = s.psInterval := rfl
@[simp] theorem State.countDown_psActive : (s.countDown).psActive = s.psActive := rfl
@[simp] theorem State.countDown_psOnfire : (s.countDown).psOnfire = s.psOnfire := rfl
@[simp] theorem State.countDown_conn : (s.countDown).conn = s.conn := rfl
@[simp] theorem State.countDown_lastRecord : (s.countDown).lastRecord = s.lastRecord := rfl
@[simp] theorem State.countDown_slotConnected : (s.countDown).slotConnected = s.slotConnected := rfl
@[simp] theorem State.countDown_slotData : (s.countDown).slotData = s.slotData := rfl
@[simp] theorem State.countDown_cfg : (s.countDown).cfg = s.cfg := rfl
@[simp] theorem State.countDown_trace : (s.countDown).trace = s.trace := rfl
@[simp] theorem State.countDown_result : (s.countDown).result = s.result := rfl
@[simp] theorem State.countDown_txAnswer : (s.countDown).txAnswer = s.txAnswer := rfl
@[simp] theorem State.countDown_pending : (s.countDown).pending = s.pending := rfl

@[simp] theorem State.setConn_psState (c : Conn) : (s.setConn c).psState = s.psState := rfl
@[simp] theorem State.setConn_psCount (c : Conn) : (s.setConn c).psCount = s.psCount := rfl
@[simp] theorem State.setConn_psInterval (c : Conn) : (s.setConn c).psInterval = s.psInterval := rfl
@[simp] theorem State.setConn_psActive (c : Conn) : (s.setConn c).psActive = s.psActive := rfl
@[simp] theorem State.setConn_psOnfire (c : Conn) : (s.setConn c).psOnfire = s.psOnfire := rfl
@[simp] theorem State.setConn_conn (c : Conn) : (s.setConn c).conn = c := rfl
@[simp] theorem State.setConn_lastRecord (c : Conn) : (s.setConn c).lastRecord = s.lastRecord := rfl
@[simp] theorem State.setConn_slotConnected (c : Conn) : (s.setConn c).slotConnected = s.slotConnected := rfl
@[simp] theorem State.setConn_slotData (c : Conn) : (s.setConn c).slotData = s.slotData := rfl
@[simp] theorem State.setConn_cfg (c : Conn) : (s.setConn c).cfg = s.cfg := rfl
@[simp] theorem State.setConn_trace (c : Conn) : (s.setConn c).trace = s.trace := rfl
@[simp] theorem State.setConn_result (c : Conn) : (s.setConn c).result = s.result := rfl
@[simp] theorem State.setConn_txAnswer (c : Conn) : (s.setConn c).txAnswer = s.txAnswer := rfl
@[simp] theorem State.setConn_pending (c : Conn) : (s.setConn c).pending = s.pending := rfl

@[simp] theorem State.setRecord_psState (r : Option TelemetryRecord) : (s.setRecord r).psState = s.psState := rfl
@[simp] theorem State.setRecord_psCount (r : Option TelemetryRecord) : (s.setRecord r).psCount = s.psCount := rfl
@[simp] theorem State.setRecord_psInterval (r : Option TelemetryRecord) : (s.setRecord r).psInterval = s.psInterval := rfl
@[simp] theorem State.setRecord_psActive (r : Option TelemetryRecord) : (s.setRecord r).psActive = s.psActive := rfl
@[simp] theorem State.setRecord_psOnfire (r : Option TelemetryRecord) : (s.setRecord r).psOnfire = s.psOnfire := rfl
@[simp] theorem State.setRecord_conn (r : Option TelemetryRecord) : (s.setRecord r).conn = s.conn := rfl
@[simp] theorem State.setRecord_lastRecord (r : Option TelemetryRecord) : (s.setRecord r).lastRecord = r := rfl
@[simp] theorem State.setRecord_slotConnected (r : Option TelemetryRecord) : (s.setRecord r).slotConnected = s.slotConnected := rfl
@[simp] theorem State.setRecord_slotData (r : Option TelemetryRecord) : (s.setRecord r).slotData = s.slotData := rfl
@[simp] theorem State.setRecord_cfg (r : Option TelemetryRecord) : (s.setRecord r).cfg = s.cfg := rfl
@[simp] theorem State.setRecord_trace (r : Option TelemetryRecord) : (s.setRecord r).trace = s.trace := rfl
@[simp] theorem State.setRecord_result (r : Option TelemetryRecord) : (s.setRecord r).result = s.result := rfl
@[simp] theorem State.setRecord_txAnswer (r : Option TelemetryRecord) : (s.setRecord r).txAnswer = s.txAnswer := rfl
@[simp] theorem State.setRecord_pending (r : Option TelemetryRecord) : (s.setRecord r).pending = s.pending := rfl

@[simp] theorem State.accept_psState (iss : Issue) (rest : List Issue) : (s.accept iss rest).psState = s.psState := rfl
@[simp] theorem State.accept_psCount (iss : Issue) (rest : List Issue) : (s.accept iss rest).psCount = s.psCount := rfl
@[simp] theorem State.accept_psInterval (iss : Issue) (rest : List Issue) : (s.accept iss rest).psInterval = s.psInterval := rfl
@[simp] theorem State.accept_psActive (iss : Issue) (rest : List Issue) : (s.accept iss rest).psActive = s.psActive := rfl
@[simp] theorem State.accept_psOnfire (iss : Issue) (rest : List Issue) : (s.accept iss rest).psOnfire = s.psOnfire := rfl
@[simp] theorem State.accept_conn (iss : Issue) (rest : List Issue) : (s.accept iss rest).conn = s.conn := rfl
@[simp] theorem State.accept_lastRecord (iss : Issue) (rest : List Issue) : (s.accept iss rest).lastRecord = s.lastRecord := rfl
@[simp] theorem State.accept_slotConnected (iss : Issue) (rest : List Issue) : (s.accept iss rest).slotConnected = s.slotConnected := rfl
@[simp] theorem State.accept_slotData (iss : Issue) (rest : List Issue) : (s.accept iss rest).slotData = s.slotData := rfl
@[simp] theorem State.accept_cfg (iss : Issue) (rest : List Issue) : (s.accept iss rest).cfg = s.cfg := rfl
@[simp] theorem State.accept_trace (iss : Issue) (rest : List Issue) : (s.accept iss rest).trace = s.trace := rfl
@[simp] theorem State.accept_result (iss : Issue) (rest : List Issue) : (s.accept iss rest).result = s.result := rfl
@[simp] theorem State.accept_txAnswer (iss : Issue) (rest : List Issue) : (s.accept iss rest).txAnswer = iss.tx := rfl
@[simp] theorem State.accept_pending (iss : Issue) (rest : List Issue) : (s.accept iss rest).pending = rest := rfl

@[simp] theorem State.issueFirst_psState (iss : Issue) : (s.issueFirst iss).psState = s.psState := rfl
@[simp] theorem State.issueFirst_psCount (iss : Issue) : (s.issueFirst iss).psCount = s.psCount := rfl
@[simp] theorem State.issueFirst_psInterval (iss : Issue) : (s.issueFirst iss).psInterval = s.psInterval := rfl
@[simp] theorem State.issueFirst_psActive (iss : Issue) : (s.issueFirst iss).psActive = s.psActive := rfl
@[simp] theorem State.issueFirst_psOnfire (iss : Issue) : (s.issueFirst iss).psOnfire = s.psOnfire := rfl
@[simp] theorem State.issueFirst_conn (iss : Issue) : (s.issueFirst iss).conn = s.conn := rfl
@[simp] theorem State.issueFirst_lastRecord (iss : Issue) : (s.issueFirst iss).lastRecord = s.lastRecord := rfl
@[simp] theorem State.issueFirst_slotConnected (iss : Issue) : (s.issueFirst iss).slotConnected = s.slotConnected := rfl
@[simp] theorem State.issueFirst_slotData (iss : Issue) : (s.issueFirst iss).slotData = s.slotData := rfl
@[simp] theorem State.issueFirst_cfg (iss : Issue) : (s.issueFirst iss).cfg = s.cfg := rfl
@[simp] theorem State.issueFirst_trace (iss : Issue) : (s.issueFirst iss).trace = s.trace := rfl
@[simp] theorem State.issueFirst_result (iss : Issue) : (s.issueFirst iss).result = s.result := rfl
@[simp] theorem State.issueFirst_txAnswer (iss : Issue) : (s.issueFirst iss).txAnswer = s.txAnswer := rfl
@[simp] theorem State.issueFirst_pending (iss : Issue) : (s.issueFirst iss).pending = iss :: s.pending := rfl

@[simp] theorem State.created_cfg (c : Config) (sc : SlotConnected) (sd : SlotData) :
    (State.created c sc sd).cfg = c := rfl
@[simp] theorem State.created_slotConnected (c : Config) (sc : SlotConnected) (sd : SlotData) :
    (State.created c sc sd).slotConnected = sc := rfl
@[simp] theorem State.created_slotData (c : Config) (sc : SlotConnected) (sd : SlotData) :
    (State.created c sc sd).slotData = sd := rfl

end Sys2Proof.Machine
end

