-- ==== Sys2Proof/Laws/Ops.lean ====
section
/-! SUPPORT. What each shared operation over the state can do, said once. -/

namespace Sys2Proof.Machine

theorem ret_next {r : OpResult} {s t : State} (h : ret r s = .next t) : t = s.setResult r := by
  simpa [ret] using h.symm

theorem raise_next {e : ErrorKind} {s t : State} (h : raise e s = .next t) :
    t = s.setResult (.err e) := by
  simpa [raise] using h.symm

/-- Starting the timer either arms it (R201) or, stopped, changes nothing (R202). -/
theorem startTimer_cases (n : Nat) (f : OnFire) (s : State) :
    (s.psState = .Stopped ∧ startTimer n f s = s) ∨
    (s.psState ≠ .Stopped ∧ startTimer n f s = s.arm n f) := by
  unfold startTimer
  cases h : s.psState <;> simp

/-- The default `onConnected` behaviour always leaves a full interval armed (R231, R232). -/
theorem startPolling_eq (s : State) :
    startPolling s = s.arm s.cfg.pollInterval .ReadCycle := by
  unfold startPolling startTimer
  cases h : s.psState <;> simp [h, State.arm, State.freshSession]

/-- A transport write emits its frame, whatever the answer (R237). -/
@[simp] theorem transmit_state (frame : Bytes) (s : State) :
    (transmit frame s).2 = s.emit (.txWrite frame) := rfl

@[simp] theorem transmit_ok (frame : Bytes) (s : State) (h : s.txAnswer = .ok) :
    (transmit frame s).1 = .ok () := by
  simp [transmit, h]

@[simp] theorem transmit_fail (frame : Bytes) (s : State) (h : s.txAnswer = .fail) :
    (transmit frame s).1 = .err .transportWriteFailed := by
  simp [transmit, h]

@[simp] theorem readCycle_state (s : State) :
    (readCycle s).2 = s.emit (.txWrite (pollRequest s.cfg)) := rfl

/-- The operation's result of a transport write (R233, R235). -/
theorem answerSent_transmit (frame : Bytes) (s : State) :
    answerSent (transmit frame s) =
      .next ((s.emit (.txWrite frame)).setResult
        (match s.txAnswer with
          | .ok => .ok .unit
          | .fail => .err (.transport .transportWriteFailed))) := by
  unfold answerSent transmit ret
  cases s.txAnswer <;> rfl

theorem answerParsed_next (r : Result Decoded ProtocolError) (s : State) :
    answerParsed r s = .next (s.setResult
      (match r with
        | .ok d => .ok (.decoded d)
        | .err e => .err (.protocol e))) := by
  cases r <;> rfl

theorem answerEncoded_next (r : Result Bytes EncodeError) (s : State) :
    answerEncoded r s = .next (s.setResult
      (match r with
        | .ok f => .ok (.frame f)
        | .err e => .err (.encode e))) := by
  cases r <;> rfl

/-- What `onFire` emits (R206). -/
theorem fireAction_cases (s : State) :
    (s.psOnfire = .HostStrobe ∧ fireAction s = s.emit .hostFire) ∨
    (s.psOnfire = .ReadCycle ∧ s.txAnswer = .ok ∧
      fireAction s = s.emit (.txWrite (pollRequest s.cfg))) ∨
    (s.psOnfire = .ReadCycle ∧ s.txAnswer = .fail ∧
      fireAction s =
        (s.emit (.txWrite (pollRequest s.cfg))).emit (.err .transportWriteFailed)) := by
  unfold fireAction readCycle transmit
  cases h : s.psOnfire <;> cases h' : s.txAnswer <;> simp

/-- Forwarding appends at most one sink output (R30, R234). -/
theorem forward_cases (d : Decoded) (s : State) :
    (s.slotData = .Bound ∧ forward d s = s.emit (.sinkData d)) ∨
    (s.slotData = .Unbound ∧ forward d s = s) := by
  unfold forward
  cases h : s.slotData <;> simp

/-- What DSP.NOTIFY does with each result of the decoder (R234). -/
theorem deliver_cases (r : Result Decoded ProtocolError) (s : State) :
    (∃ t, r = .ok (.telemetry t) ∧ deliver r s = forward (.telemetry t) (s.setRecord (some t))) ∨
    (∃ w, r = .ok (.writeAck w) ∧ deliver r s = forward (.writeAck w) s) ∨
    (∃ e, r = .err e ∧ deliver r s = s.emit (.log (severity e) e)) := by
  match r with
  | .ok (.telemetry t) => exact .inl ⟨t, rfl, rfl⟩
  | .ok (.writeAck w) => exact .inr (.inl ⟨w, rfl, rfl⟩)
  | .err e => exact .inr (.inr ⟨e, rfl, rfl⟩)

/-- What `onFire` puts on the ports, as a function of what it reads (R206). -/
def fireOutputs (cfg : Config) (f : OnFire) (a : TxAnswer) : List Output :=
  match f, a with
  | .HostStrobe, _ => [.hostFire]
  | .ReadCycle, .ok => [.txWrite (pollRequest cfg)]
  | .ReadCycle, .fail => [.txWrite (pollRequest cfg), .err .transportWriteFailed]

/-- `onFire` appends outputs and changes nothing else (R206). -/
theorem fireAction_eq (s : State) :
    fireAction s =
      { s with trace := s.trace ++ fireOutputs s.cfg s.psOnfire s.txAnswer } := by
  rcases fireAction_cases s with ⟨h, hf⟩ | ⟨h, h', hf⟩ | ⟨h, h', hf⟩ <;> rw [hf]
  · have e : fireOutputs s.cfg s.psOnfire s.txAnswer = [.hostFire] := by rw [h]; rfl
    rw [e]; rfl
  · have e : fireOutputs s.cfg s.psOnfire s.txAnswer = [.txWrite (pollRequest s.cfg)] := by
      rw [h, h']; rfl
    rw [e]; rfl
  · have e : fireOutputs s.cfg s.psOnfire s.txAnswer =
        [.txWrite (pollRequest s.cfg), .err .transportWriteFailed] := by rw [h, h']; rfl
    rw [e]; simp [State.emit]

/-- The record DSP.NOTIFY leaves retained (R28, R234). -/
def retained (r : Result Decoded ProtocolError) (old : Option TelemetryRecord) :
    Option TelemetryRecord :=
  match r with
  | .ok (.telemetry t) => some t
  | .ok (.writeAck _) => old
  | .err _ => old

/-- What DSP.NOTIFY puts on the ports (R234). -/
def deliverOutputs (slot : SlotData) (r : Result Decoded ProtocolError) : List Output :=
  match r, slot with
  | .ok d, .Bound => [.sinkData d]
  | .ok _, .Unbound => []
  | .err e, _ => [.log (severity e) e]

/-- DSP.NOTIFY's delivery sets the retained record, appends outputs, and changes nothing else
(R234). -/
theorem deliver_eq (r : Result Decoded ProtocolError) (s : State) :
    deliver r s =
      { s with
        lastRecord := retained r s.lastRecord
        trace := s.trace ++ deliverOutputs s.slotData r } := by
  match r with
  | .ok (.telemetry t) =>
    show forward (.telemetry t) (s.setRecord (some t)) = _
    rcases forward_cases (.telemetry t) (s.setRecord (some t)) with ⟨h, hf⟩ | ⟨h, hf⟩ <;>
      rw [State.setRecord_slotData] at h
    · have e : deliverOutputs s.slotData (.ok (.telemetry t)) = [.sinkData (.telemetry t)] := by
        rw [h]; rfl
      rw [hf, e]; rfl
    · have e : deliverOutputs s.slotData (.ok (.telemetry t)) = [] := by rw [h]; rfl
      rw [hf, e]; simp [State.setRecord, retained]
  | .ok (.writeAck w) =>
    show forward (.writeAck w) s = _
    rcases forward_cases (.writeAck w) s with ⟨h, hf⟩ | ⟨h, hf⟩
    · have e : deliverOutputs s.slotData (.ok (.writeAck w)) = [.sinkData (.writeAck w)] := by
        rw [h]; rfl
      rw [hf, e]; rfl
    · have e : deliverOutputs s.slotData (.ok (.writeAck w)) = [] := by rw [h]; rfl
      rw [hf, e]; simp [retained]
  | .err e => rfl

/-- DSP.NOTIFY outputs neither a frame, a strobe nor a timer error (R234). -/
theorem deliverOutputs_quiet (slot : SlotData) (r : Result Decoded ProtocolError) :
    Output.hostFire ∉ deliverOutputs slot r ∧ (∀ e, Output.err e ∉ deliverOutputs slot r) ∧
      ∀ F, Output.txWrite F ∉ deliverOutputs slot r := by
  cases r <;> cases slot <;> simp [deliverOutputs]

end Sys2Proof.Machine
end

