-- ==== Sys2Proof/Laws/PerInstr.lean ====
section
/-! SUPPORT. Per-instruction laws: one lemma per constructor of `Instr`. -/

namespace Sys2Proof.Laws.EncodesItsRow

open Sys2Proof Sys2Proof.Machine

/-- The encoding of an instruction is that of its row of the opcode table: its command select (R95),
or, without one, the pseudo-operation's lane (R99) or a frame whose operation-code byte is 3 or 6
(R81 to R84). -/
def Statement (i : Instr) : Prop :=
  match encode i with
  | .cmd sel _ => i.select = some sel
  | .append _ => i.select = none
  | .txFrame B => i.select = none ∧ (byteAt B 1 = 3 ∨ byteAt B 1 = 6)
  | .rxFrame B => i.select = none ∧ (byteAt B 1 = 3 ∨ byteAt B 1 = 6)

theorem frameReadReq (a : Byte) (r : Word) (n : Word) (c : Word) : Statement (.frameReadReq a r n c) := ⟨rfl, .inl rfl⟩
theorem frameWriteReq (a : Byte) (r : Word) (v : Word) (c : Word) : Statement (.frameWriteReq a r v c) := ⟨rfl, .inr rfl⟩
theorem frameReadRsp (a : Byte) (payload : Bytes) (c : Word) : Statement (.frameReadRsp a payload c) := ⟨rfl, .inl rfl⟩
theorem frameWriteRsp (a : Byte) (r : Word) (v : Word) (c : Word) : Statement (.frameWriteRsp a r v c) := ⟨rfl, .inr rfl⟩
theorem crcCompute (buf : Bytes) : Statement (.crcCompute buf) := rfl
theorem crcVerify (buf : Bytes) : Statement (.crcVerify buf) := rfl
theorem encRead (a : Int) (r : Int) (n : Int) : Statement (.encRead a r n) := rfl
theorem encWrite (a : Int) (r : Int) (v : Int) : Statement (.encWrite a r v) := rfl
theorem decParse (buf : Bytes) : Statement (.decParse buf) := rfl
theorem psStart (interval : Int) (onfire : OnFire) : Statement (.psStart interval onfire) := rfl
theorem psFire : Statement (.psFire) := rfl
theorem psStop : Statement (.psStop) := rfl
theorem dspReady : Statement (.dspReady) := rfl
theorem dspReadcycle : Statement (.dspReadcycle) := rfl
theorem dspNotify (buf : Bytes) : Statement (.dspNotify buf) := rfl
theorem dspSetload (v : Int) : Statement (.dspSetload v) := rfl
theorem dspDisconnect : Statement (.dspDisconnect) := rfl
theorem tick : Statement (.tick) := rfl
theorem crcAppend (buf : Bytes) : Statement (.crcAppend buf) := rfl

end Sys2Proof.Laws.EncodesItsRow
end

