-- ==== Sys2Proof/Laws/Step.lean ====
section
/-! SUPPORT. What the fetch, one step and each instruction can do, said once: the later proofs
cite these inversions instead of unfolding. -/

namespace Sys2Proof.Machine

/-- The fetch, by cases. -/
theorem fetch_cases (s : State) :
    (s.pending = [] ∧ fetch s = .idle) ∨
    (∃ iss rest e, s.pending = iss :: rest ∧ decode iss.word = .err e ∧
      fetch s = .refuse (.undecodable e)) ∨
    (∃ iss rest i, s.pending = iss :: rest ∧ decode iss.word = .ok i ∧
      mayIssue iss.issuer i = true ∧ fetch s = .run i (s.accept iss rest)) ∨
    (∃ iss rest i, s.pending = iss :: rest ∧ decode iss.word = .ok i ∧
      mayIssue iss.issuer i = false ∧ fetch s = .refuse (.wrongIssuer iss.issuer)) := by
  unfold fetch
  cases hp : s.pending with
  | nil => exact .inl ⟨rfl, rfl⟩
  | cons iss rest =>
    cases hd : decode iss.word with
    | err e => exact .inr (.inl ⟨iss, rest, e, rfl, hd, by simp [hd]⟩)
    | ok i =>
      cases hm : mayIssue iss.issuer i
      · exact .inr (.inr (.inr ⟨iss, rest, i, rfl, hd, hm, by simp [hd, hm]⟩))
      · exact .inr (.inr (.inl ⟨iss, rest, i, rfl, hd, hm, by simp [hd, hm]⟩))

/-- A step that answers a next state is idle or performs one instruction. -/
theorem step_next_cases {s t : State} (h : step s = .next t) :
    (s.pending = [] ∧ t = s) ∨
    (∃ iss rest i, s.pending = iss :: rest ∧ decode iss.word = .ok i ∧
      mayIssue iss.issuer i = true ∧ exec i (s.accept iss rest) = .next t) := by
  rcases fetch_cases s with ⟨hp, hf⟩ | ⟨iss, rest, e, -, -, hf⟩ | ⟨iss, rest, i, hp, hd, hm, hf⟩ |
    ⟨iss, rest, i, -, -, -, hf⟩
  · exact .inl ⟨hp, by simpa [step, hf] using h.symm⟩
  · simp [step, hf] at h
  · exact .inr ⟨iss, rest, i, hp, hd, hm, by simpa [step, hf] using h⟩
  · simp [step, hf] at h

/-- The state an instruction leaves: which update of the scheduler, which outputs, which result.
One case for each shape of effect. -/
theorem exec_next_cases {i : Instr} {s t : State} (h : exec i s = .next t) :
    -- pure operations and frames (R128, R144, R173)
    (∃ r, t = s.setResult r) ∨
    -- a transport write (R233, R235)
    (∃ frame r, t = (s.emit (.txWrite frame)).setResult r ∧
      ((i = .dspReadcycle ∧ frame = pollRequest s.cfg) ∨
       (∃ v : Int, i = .dspSetload v ∧ 0 ≤ v ∧ v ≤ 65535 ∧
        frame = requestFrame Config.opWrite s.cfg.deviceAddress s.cfg.loadRegister
          (BitVec.ofInt 16 v)))) ∨
    -- PS.START (R201)
    (∃ (n : Int) (f : OnFire), i = .psStart n f ∧ 1 ≤ n ∧ s.psState ≠ .Stopped ∧
      t = (s.arm n.toNat f).setResult .none) ∨
    -- PS.FIRE (R206)
    (i = .psFire ∧ fireEnabled s = true ∧ s.psActive = true ∧
      t = ((fireAction s).rearm).setResult .none) ∨
    (i = .psFire ∧ fireEnabled s = true ∧ s.psActive = false ∧
      t = (fireAction s).setResult .none) ∨
    -- PS.STOP (R208), TICK (R204)
    (i = .psStop ∧ t = s.cancel.setResult .none) ∨
    (i = .tick ∧ t = s.countDown.setResult .none) ∨
    -- DSP.READY (R231)
    (i = .dspReady ∧ s.slotConnected = .Custom ∧
      t = ((s.setConn .Ready).emit .sinkConnected).setResult .none) ∨
    (i = .dspReady ∧ s.slotConnected = .Default ∧
      t = (((s.setConn .Ready).emit .sinkConnected).arm s.cfg.pollInterval .ReadCycle).setResult
        .none) ∨
    -- DSP.NOTIFY (R234)
    (∃ buf, i = .dspNotify buf ∧ t = (deliver (parse s.cfg buf) s).setResult .none) ∨
    -- DSP.DISCONNECT (R236)
    (i = .dspDisconnect ∧
      t = ((s.cancel.setConn .Disconnected).setRecord none).setResult .none) := by
  cases i with
  | frameReadReq a r n c =>
    exact .inl ⟨_, by simpa [exec, execFrameReadReq, answerEncoded_next] using h.symm⟩
  | frameWriteReq a r v c =>
    exact .inl ⟨_, by simpa [exec, execFrameWriteReq, answerEncoded_next] using h.symm⟩
  | frameReadRsp a p c =>
    exact .inl ⟨_, by simpa [exec, execFrameReadRsp, answerParsed_next] using h.symm⟩
  | frameWriteRsp a r v c =>
    exact .inl ⟨_, by simpa [exec, execFrameWriteRsp, answerParsed_next] using h.symm⟩
  | crcCompute buf => exact .inl ⟨_, ret_next h⟩
  | crcVerify buf => exact .inl ⟨_, ret_next h⟩
  | crcAppend buf => exact .inl ⟨_, ret_next h⟩
  | encRead a r n =>
    exact .inl ⟨_, by simpa [exec, execEncRead, answerEncoded_next] using h.symm⟩
  | encWrite a r v =>
    exact .inl ⟨_, by simpa [exec, execEncWrite, answerEncoded_next] using h.symm⟩
  | decParse buf =>
    exact .inl ⟨_, by simpa [exec, execDecParse, answerParsed_next] using h.symm⟩
  | psStart n f =>
    simp only [exec, execPsStart] at h
    split at h
    · exact nomatch h
    · have ht := ret_next h
      rcases startTimer_cases n.toNat f s with ⟨-, hs⟩ | ⟨hne, hs⟩
      · exact .inl ⟨.none, by rw [ht, hs]⟩
      · exact .inr (.inr (.inl ⟨n, f, rfl, by omega, hne, by rw [ht, hs]⟩))
  | psFire =>
    simp only [exec, execPsFire] at h
    split at h
    · rename_i hen
      have ht := ret_next h
      have hact : (fireAction s).psActive = s.psActive := by
        rcases fireAction_cases s with ⟨-, hf⟩ | ⟨-, -, hf⟩ | ⟨-, -, hf⟩ <;> simp [hf]
      rw [hact] at ht
      cases ha : s.psActive
      · exact .inr (.inr (.inr (.inr (.inl ⟨rfl, hen, rfl, by simpa [ha] using ht⟩))))
      · exact .inr (.inr (.inr (.inl ⟨rfl, hen, rfl, by simpa [ha] using ht⟩)))
    · exact nomatch h
  | psStop => exact .inr (.inr (.inr (.inr (.inr (.inl ⟨rfl, ret_next h⟩)))))
  | tick => exact .inr (.inr (.inr (.inr (.inr (.inr (.inl ⟨rfl, ret_next h⟩))))))
  | dspReady =>
    have ht := ret_next h
    cases hs : s.slotConnected
    · refine .inr (.inr (.inr (.inr (.inr (.inr (.inr (.inr (.inl ⟨rfl, rfl, ?_⟩))))))))
      simpa [hs, startPolling_eq] using ht
    · refine .inr (.inr (.inr (.inr (.inr (.inr (.inr (.inl ⟨rfl, rfl, ?_⟩)))))))
      simpa [hs] using ht
  | dspReadcycle =>
    simp only [exec, execDspReadcycle, readCycle, answerSent_transmit] at h
    exact .inr (.inl ⟨_, _, by simpa using h.symm, .inl ⟨rfl, rfl⟩⟩)
  | dspNotify buf =>
    exact .inr (.inr (.inr (.inr (.inr (.inr (.inr (.inr (.inr (.inl ⟨buf, rfl, ret_next h⟩)))))))))
  | dspSetload v =>
    simp only [exec, execDspSetload] at h
    split at h
    · exact .inl ⟨_, raise_next h⟩
    · rename_i frame hf
      obtain ⟨-, -, hv, rfl⟩ := encodeRequest_ok hf
      rw [answerSent_transmit] at h
      exact .inr (.inl ⟨_, _, by simpa using h.symm, .inr ⟨v, rfl, hv.1, hv.2, by simp⟩⟩)
  | dspDisconnect =>
    exact .inr (.inr (.inr (.inr (.inr (.inr (.inr (.inr (.inr (.inr ⟨rfl, ret_next h⟩)))))))))

end Sys2Proof.Machine
end

