-- ==== Sys2Proof/Tests/Slice0.lean ====
section
/-! SUPPORT. Tests: the spec's own vectors (`spec/95_test_vectors.md`, Parts A and B, whose bytes are computed from
the rules) and words written out from the layouts; and, for every statement with hypotheses, a witness that
meets them. -/

namespace Sys2Proof.Tests

-- One theorem at a time: elaborated all at once, these exhaust the threads Lean may start.
set_option Elab.async false

open Sys2Proof Sys2Proof.Machine Sys2Proof.Safety

/-! ## The configuration of `95_test_vectors.md` B3 and B6 -/

/-- TEST_TABLE_A (B3). -/
def tableA : List RawEntry :=
  [
   ⟨.battery_percentage, 0, 2, 1, false⟩,
   ⟨.battery_voltage, 2, 2, 1/10, false⟩,
   ⟨.battery_current, 4, 2, 1/100, true⟩,
   ⟨.controller_temperature, 6, 1, 1, true⟩,
   ⟨.battery_temperature, 7, 1, 1, true⟩,
   ⟨.load_status, 8, 1, 1, false⟩,
   ⟨.load_voltage, 9, 2, 1/10, false⟩,
   ⟨.load_current, 11, 2, 1/100, false⟩,
   ⟨.load_power, 13, 1, 1, false⟩,
   ⟨.pv_voltage, 14, 2, 1/10, false⟩,
   ⟨.pv_current, 16, 2, 1/100, false⟩,
   ⟨.pv_power, 18, 1, 1, false⟩,
   ⟨.max_charging_power_today, 19, 1, 1, false⟩,
   ⟨.max_discharging_power_today, 20, 1, 1, false⟩,
   ⟨.charging_amp_hours_today, 21, 1, 1, false⟩,
   ⟨.discharging_amp_hours_today, 22, 1, 1, false⟩,
   ⟨.power_generation_today, 23, 1, 1, false⟩,
   ⟨.power_consumption_today, 24, 1, 1, false⟩,
   ⟨.power_consumption_total, 25, 4, 1/1000, false⟩,
   ⟨.power_generation_total, 29, 4, 1/1000, false⟩,
   ⟨.charging_status, 33, 1, 1, false⟩]

/-- The configuration of B6. -/
def rawA : RawConfig := ⟨255, 266, 256, 34, 5, some 1, tableA, some .twos_complement⟩

/-- The block created with a raw configuration, the transport answering `ok`; reset where the
configuration is refused. -/
def blockOf (raw : RawConfig) : State :=
  match bootBlock raw .Default .Bound with
  | .ok s => { s with txAnswer := .ok }
  | .error _ => State.reset

/-- The block under the configuration of B6. -/
def s0 : State := blockOf rawA

/-- `(PS_STATE, PS_COUNT, PS_INTERVAL, PS_ACTIVE)` as B5 writes it. -/
def sched (s : State) : PsState × Nat × Nat × Bool := (s.psState, s.psCount, s.psInterval, s.psActive)

/-- `s0` with an armed timer. -/
def armed (count interval : Nat) (f : OnFire) : State :=
  { s0 with psState := .Armed, psCount := count, psInterval := interval, psActive := true, psOnfire := f }

/-- A value read off the next state; none for a refusal. -/
def after {α : Type} (i : Instr) (s : State) (f : State → α) : Option α :=
  match exec i s with
  | .next t => some (f t)
  | .fault _ => none
  | .refused _ => none

/-- The refusal of an instruction, if it is refused. -/
def refusal (o : Host.Outcome State Fault Refusal) : Option Refusal :=
  match o with
  | .next _ => none
  | .fault _ => none
  | .refused r => some r

/-- The payload of frame F30 (B4). -/
def payload30 : Bytes :=
  [0x00, 0x64, 0x00, 0x84, 0xFF, 0xCE, 0x19, 0xFB, 0x01, 0x00, 0x83, 0x00, 0x2D, 0x06, 0x00, 0xB9, 0x01, 0x2C, 0x37, 0x3C, 0x0A, 0x05, 0x02, 0x28, 0x0C, 0x00, 0x01, 0xE2, 0x40, 0x00, 0x00, 0x30, 0x39, 0x02]

/-- Frame F30 (B4). -/
def f30 : Bytes := [0xFF, 0x03, 0x22] ++ payload30 ++ [0x34, 0x7A]

/-- Record R30 (B4). -/
def r30 : TelemetryRecord :=
  ⟨100, 66/5, -1/2, 25, -5, 1, 131/10, 9/20, 6, 37/2, 3, 55, 60, 10, 5, 2, 40, 12, 15432/125, 2469/200, 2⟩

/-- The write request, which is also its echo (V12, V26). -/
def w8 : Bytes := [0xFF, 0x06, 0x01, 0x0A, 0x00, 0x01, 0x7C, 0x2A]

/-! ## Well-formedness: each check refuses an ill-formed term -/

theorem test_wf_read_req_checksum : (Instr.frameReadReq 255 256 34 0xF1D0).wellFormed = false := by decide +kernel
theorem test_wf_write_req_checksum : (Instr.frameWriteReq 255 266 1 0x7C2A).wellFormed = false := by decide +kernel
theorem test_wf_write_req : (Instr.frameWriteReq 255 266 1 0x2A7C).wellFormed = true := by decide +kernel
theorem test_wf_payload : (Instr.frameReadRsp 255 (List.replicate 256 0) 0).wellFormed = false ∧
    (Instr.frameReadRsp 255 (List.replicate 256 0) 0).encodable = false := by decide +kernel
theorem test_wf_interval : (Instr.psStart 0 .ReadCycle).wellFormed = false := by decide

/-! ## Decoding: one word per constructor, written out from R81 to R84 and R95 -/

/-- The ports of a command on which every port carries something else. -/
def ports : Ports := ⟨1, 2, 3, [4, 5], 6, .HostStrobe⟩

theorem test_decode_read_req : decode (.txFrame [0xFF, 0x03, 0x01, 0x00, 0x00, 0x22, 0xD1, 0xF1]) =
    .ok (.frameReadReq 0xFF 0x0100 0x0022 0xF1D1) := by decide
theorem test_decode_write_req : decode (.txFrame [0xFF, 0x06, 0x01, 0x0A, 0x00, 0x01, 0x7C, 0x2A]) =
    .ok (.frameWriteReq 0xFF 0x010A 0x0001 0x2A7C) := by decide
theorem test_decode_read_rsp : decode (.rxFrame [0xFF, 0x03, 0x02, 0x00, 0x64, 0x90, 0x7B]) =
    .ok (.frameReadRsp 0xFF [0x00, 0x64] 0x7B90) := by decide
theorem test_decode_write_rsp : decode (.rxFrame [0xFF, 0x06, 0x01, 0x0A, 0x00, 0x01, 0x7C, 0x2A]) =
    .ok (.frameWriteRsp 0xFF 0x010A 0x0001 0x2A7C) := by decide
theorem test_decode_crc : decode (.cmd 0b0000 ports) = .ok (.crcCompute [4, 5]) ∧
    decode (.cmd 0b0001 ports) = .ok (.crcVerify [4, 5]) ∧
    decode (.append ports) = .ok (.crcAppend [4, 5]) := by decide
theorem test_decode_enc : decode (.cmd 0b0010 ports) = .ok (.encRead 1 2 3) ∧
    decode (.cmd 0b0011 ports) = .ok (.encWrite 1 2 3) := by decide
theorem test_decode_parse : decode (.cmd 0b0100 ports) = .ok (.decParse [4, 5]) := by decide
theorem test_decode_ps : decode (.cmd 0b0101 ports) = .ok (.psStart 6 .HostStrobe) ∧
    decode (.cmd 0b0110 ports) = .ok .psFire ∧ decode (.cmd 0b0111 ports) = .ok .psStop := by decide
theorem test_decode_dsp : decode (.cmd 0b1000 ports) = .ok .dspReady ∧
    decode (.cmd 0b1001 ports) = .ok .dspReadcycle ∧
    decode (.cmd 0b1010 ports) = .ok (.dspNotify [4, 5]) ∧
    decode (.cmd 0b1011 ports) = .ok (.dspSetload 3) ∧
    decode (.cmd 0b1100 ports) = .ok .dspDisconnect := by decide
theorem test_decode_tick : decode (.cmd 0b1101 ports) = .ok .tick := by decide
theorem test_decode_reserved : decode (.cmd 0b1110 ports) = .err (.reservedSelect 0xE) ∧
    decode (.cmd 0b1111 ports) = .err (.reservedSelect 0xF) := by decide
theorem test_decode_tx_other : decode (.txFrame [0xFF, 0x09, 0x01, 0x02, 0x03, 0x04, 0x69, 0x1A]) = .err .noRequestLayout := by decide
theorem test_decode_rx_other : decode (.rxFrame [0xFF, 0x09, 0x00, 0x47, 0xA0]) = .ok (.decParse [0xFF, 0x09, 0x00, 0x47, 0xA0]) := by decide
theorem test_table_words : decodeTableWord 8 0x5 = some (.psStart 0 .ReadCycle) ∧
    decodeTableWord 8 0xE = none ∧ decodeTableWord 8 0x1D = none ∧
    decodeTableWord 64 0xFF0301000022D1F1 = some (.frameReadReq 255 256 34 0xF1D1) ∧
    decodeTableWord 64 0x0006000000000000 = some (.frameWriteReq 0 0 0 0) ∧
    decodeTableWord 24 0x000300 = some (.frameReadRsp 0 [] 0) ∧
    decodeTableWord 16 0x0300 = some (.frameReadRsp 0 [] 0) := by decide

/-! ## Checksum (B1) -/

theorem test_crc_check_value : after (.crcCompute [0x31, 0x32, 0x33, 0x34, 0x35, 0x36, 0x37, 0x38, 0x39]) s0 (·.result) =
    some (.uint16 0x4B37) := by decide +kernel
theorem test_crc_write_body : after (.crcCompute [0xFF, 0x06, 0x01, 0x0A, 0x00, 0x01]) s0 (·.result) =
    some (.uint16 0x2A7C) := by decide +kernel
theorem test_crc_trace : [1, 2, 3, 4, 5, 6, 7, 8].map (fun k => crcBit^[k] 0xFFFE) =
    [0x7FFF, 0x9FFE, 0x4FFF, 0x87FE, 0x43FF, 0x81FE, 0x40FF, 0x807E] := by decide +kernel
theorem test_crc_table_form : crcOfByTable [0xFF, 0x03, 0x01, 0x00, 0x00, 0x22] = 0xF1D1 := by decide +kernel
theorem test_verify_true : after (.crcVerify w8) s0 (·.result) = some (.bool true) ∧
    after (.crcVerify [0xFF, 0xFF]) s0 (·.result) = some (.bool true) := by decide +kernel
theorem test_verify_false : after (.crcVerify [0xFF, 0x06, 0x01, 0x0A, 0x00, 0x01, 0x2A, 0x7C]) s0 (·.result) = some (.bool false) ∧
    after (.crcVerify [0xFF]) s0 (·.result) = some (.bool false) := by decide +kernel
theorem test_append : after (.crcAppend [0xFF, 0x03, 0x00]) s0 (·.result) =
    some (.bytes [0xFF, 0x03, 0x00, 0x41, 0x00]) := by decide +kernel
theorem test_append_empty : after (.crcAppend []) s0 (·.result) = some (.bytes [0xFF, 0xFF]) := by decide +kernel

/-! ## Encoder (B2) -/

theorem test_enc_read : after (.encRead 255 0x1234 0x0102) s0 (·.result) =
    some (.ok (.frame [0xFF, 0x03, 0x12, 0x34, 0x01, 0x02, 0x94, 0xF3])) := by decide +kernel
theorem test_enc_read_range : after (.encRead 256 0 1) s0 (·.result) = some (.err (.encode .invalidArgument)) ∧
    after (.encRead 255 256 65536) s0 (·.result) = some (.err (.encode .invalidArgument)) ∧
    after (.encRead (-1) 0 1) s0 (·.result) = some (.err (.encode .invalidArgument)) := by decide +kernel
theorem test_enc_write : after (.encWrite 0 65535 65535) s0 (·.result) =
    some (.ok (.frame [0x00, 0x06, 0xFF, 0xFF, 0xFF, 0xFF, 0x89, 0x8F])) := by decide +kernel
theorem test_enc_write_range : after (.encWrite 255 266 (-1)) s0 (·.result) =
    some (.err (.encode .invalidArgument)) := by decide +kernel
theorem test_frame_read_req : after (.frameReadReq 0 0 0 0) s0 (·.result) =
    some (.ok (.frame [0x00, 0x03, 0x00, 0x00, 0x00, 0x00, 0x44, 0x1B])) := by decide +kernel
theorem test_frame_write_req : after (.frameWriteReq 255 266 65535 0x5ABC) s0 (·.result) =
    some (.ok (.frame [0xFF, 0x06, 0x01, 0x0A, 0xFF, 0xFF, 0xBC, 0x5A])) := by decide +kernel

/-! ## Decoder (B4) -/

theorem test_parse_telemetry : after (.decParse f30) s0 (·.result) =
    some (.ok (.decoded (.telemetry r30))) := by decide +kernel
theorem test_parse_errors :
    [[], [0xFF, 0x09, 0x80, 0x46], [0xFF, 0x03, 0x00, 0x41, 0x00], [0xFF, 0x09, 0x00, 0x47, 0xA0], [0xFF, 0x09, 0x01, 0x02, 0x03, 0x04, 0x69, 0x1B],
      [0xFF, 0x06, 0x01, 0x0A, 0x00, 0x67, 0xFC], [0xFF, 0x06, 0x01, 0x0A, 0x00, 0x01, 0x00, 0x2B, 0xE1], [0xFF, 0x83, 0x02, 0xA1, 0x01],
      [0xFF, 0x03, 0x02, 0x00, 0x64, 0x90, 0x7B]].map (fun B => after (.decParse B) s0 (·.result)) =
    [.truncated, .truncated, .lengthMismatch, .unknownOperation 9, .checksumMismatch, .truncated,
      .lengthMismatch, .unknownOperation 131, .lengthMismatch].map
        (fun e => some (.err (.protocol e))) := by decide +kernel
theorem test_frame_read_rsp : after (.frameReadRsp 1 payload30 0x1162) s0 (·.result) =
    some (.ok (.decoded (.telemetry r30))) := by decide +kernel
theorem test_frame_read_rsp_sign_magnitude :
    after (.decParse f30) (blockOf { rawA with signRepr := some .sign_magnitude }) (·.result) =
    some (.ok (.decoded (.telemetry
      { r30 with battery_current := -16359/50, battery_temperature := -123 }))) := by decide +kernel
theorem test_frame_write_rsp : after (.frameWriteRsp 0 65535 65535 0x8F89) s0 (·.result) =
    some (.ok (.decoded (.writeAck ⟨65535, 65535⟩))) := by decide +kernel
theorem test_frame_write_rsp_bad : after (.frameWriteRsp 255 266 1 0x2B7C) s0 (·.result) =
    some (.err (.protocol .checksumMismatch)) := by decide +kernel

/-! ## Poll timer (B5) -/

theorem test_start : after (.psStart 5 .HostStrobe) s0 sched = some (.Armed, 5, 5, true) := by decide +kernel
theorem test_start_cancels : after (.psStart 2 .HostStrobe) (armed 0 5 .HostStrobe) sched =
    some (.Armed, 2, 2, true) := by decide +kernel
theorem test_start_zero : refusal (exec (.psStart 0 .HostStrobe) s0) = some .intervalBelowOne := by decide +kernel
theorem test_fire : after .psFire (armed 0 5 .HostStrobe) (fun t => (sched t, t.trace)) =
    some ((.Armed, 5, 5, true), [.hostFire]) := by decide +kernel
theorem test_fire_fails : after .psFire { armed 0 5 .ReadCycle with txAnswer := .fail } (fun t => (sched t, t.trace)) =
    some ((.Armed, 5, 5, true), [.txWrite [0xFF, 0x03, 0x01, 0x00, 0x00, 0x22, 0xD1, 0xF1], .err .transportWriteFailed]) := by
  decide +kernel
theorem test_stop : after .psStop (armed 3 5 .ReadCycle) sched = some (.Stopped, 0, 5, false) := by decide +kernel
theorem test_tick : after .tick (armed 2 5 .ReadCycle) sched = some (.Armed, 1, 5, true) ∧
    after .tick (armed 0 5 .ReadCycle) sched = some (.Armed, 0, 5, true) := by decide +kernel

/-! ## Dispatcher (B6) -/

theorem test_ready : after .dspReady s0 (fun t => (sched t, t.conn, t.psOnfire, t.trace)) =
    some ((.Armed, 5, 5, true), .Ready, .ReadCycle, [.sinkConnected]) := by decide +kernel
theorem test_ready_custom : after .dspReady { s0 with slotConnected := .Custom } (fun t => (t.psState, t.conn, t.trace)) =
    some (.Idle, .Ready, [.sinkConnected]) := by decide +kernel
theorem test_readcycle : after .dspReadcycle s0 (fun t => (t.result, t.trace)) =
    some (.ok .unit, [.txWrite [0xFF, 0x03, 0x01, 0x00, 0x00, 0x22, 0xD1, 0xF1]]) := by decide +kernel
theorem test_notify_telemetry : after (.dspNotify f30) s0 (fun t => (t.lastRecord, t.trace)) =
    some (some r30, [.sinkData (.telemetry r30)]) := by decide +kernel
theorem test_notify_unknown : after (.dspNotify [0xFF, 0x09, 0x00, 0x47, 0xA0]) s0 (fun t => (t.lastRecord, t.trace)) =
    some (none, [.log .low (.unknownOperation 9)]) := by decide +kernel
theorem test_setload : after (.dspSetload 0) s0 (fun t => (t.result, t.trace)) =
    some (.ok .unit, [.txWrite [0xFF, 0x06, 0x01, 0x0A, 0x00, 0x00, 0xBD, 0xEA]]) := by decide +kernel
theorem test_setload_range : after (.dspSetload 70000) s0 (fun t => (t.result, t.trace)) =
    some (.err (.encode .invalidArgument), []) := by decide +kernel
theorem test_disconnect : after .dspDisconnect { armed 2 5 .ReadCycle with conn := .Ready, lastRecord := some r30 }
    (fun t => (sched t, t.conn, t.lastRecord)) =
    some ((.Stopped, 0, 5, false), .Disconnected, none) := by decide +kernel

/-! ## Boot (R93, R241) -/

theorem test_boot_refuses :
    loadFieldTable (tableA.drop 1) = .error (.notOneEntry .battery_percentage) ∧
    loadFieldTable (⟨.load_power, 0, 1, 1, false⟩ :: tableA) = .error (.notOneEntry .load_power) ∧
    loadConfig { rawA with deviceAddress := 256 } = .error .deviceAddressRange ∧
    loadConfig { rawA with pollInterval := 0 } = .error .pollIntervalBelowOne ∧
    loadConfig { rawA with ticksPerSecond := some 0 } = .error .ticksPerSecondBelowOne ∧
    loadEntry ⟨.load_power, 250, 6, 1, false⟩ = .error (.spanTooLarge .load_power) ∧
    loadEntry ⟨.load_power, 250, 0, 1, false⟩ = .error (.widthZero .load_power) := by decide +kernel

/-- TICKS_PER_SECOND and SIGN_REPR left unset are 1 (R8) and two's complement (R9): the configuration
of B6, and the same two values after reset. -/
theorem test_boot_defaults :
    loadConfig { rawA with ticksPerSecond := none, signRepr := none } = loadConfig rawA ∧
    State.reset.cfg.ticksPerSecond = 1 ∧ State.reset.cfg.signRepr = .twos_complement :=
  ⟨rfl, rfl, rfl⟩

/-! ## Witnesses: a state and operands that meet the hypotheses of each statement -/

theorem of_after {α : Type} {i : Instr} {s : State} {f : State → α} {v : α}
    (h : after i s f = some v) : ∃ t, exec i s = .next t ∧ f t = v := by
  unfold after at h
  cases ho : exec i s with
  | next t => rw [ho] at h; exact ⟨t, rfl, by simpa using h⟩
  | fault e => exact nomatch e
  | refused r => rw [ho] at h; cases h

/-- One operation pending in `s0`. -/
def issued (who : Issuer) (word : OpWord) : State := { s0 with pending := [⟨who, .fail, word⟩] }

theorem wit_DecodeEncodeRoundTrip :
    (Instr.frameReadRsp 255 (List.replicate 255 7) 9).encodable = true ∧
    (Instr.frameReadRsp 255 [] 9).encodable = true := by decide +kernel

theorem wit_DecodedFramesEncodeBack :
    decode (.txFrame w8) = .ok (.frameWriteReq 255 266 1 0x2A7C) ∧
    decode (.rxFrame f30) = .ok (.frameReadRsp 255 payload30 0x7A34) ∧
    decode (.rxFrame [0xFF]) = .ok (.decParse [0xFF]) := by decide +kernel

theorem wit_SelectsOfTheTable : (0x0 : BitVec 4).toNat < 14 ∧ (0xD : BitVec 4).toNat < 14 ∧
    14 ≤ (0xE : BitVec 4).toNat ∧ 14 ≤ (0xF : BitVec 4).toNat := by decide

theorem wit_StepRunsIssuedInstruction :
    (issued .timer (.cmd 0x6 ports)).pending = [⟨.timer, .fail, .cmd 0x6 ports⟩] ∧
    decode (.cmd 0x6 ports) = .ok .psFire ∧ mayIssue .timer .psFire = true ∧
    s0.pending = [] := by decide +kernel

theorem wit_ImpossibleOperationsRefused :
    (issued .host (.cmd 0xE ports)).pending = [⟨.host, .fail, .cmd 0xE ports⟩] ∧
    14 ≤ (0xE : BitVec 4).toNat ∧
    (issued .clock (.cmd 0x6 ports)).pending = [⟨.clock, .fail, .cmd 0x6 ports⟩] ∧
    Issuer.clock ≠ Issuer.timer ∧
    (issued .timer (.cmd 0x6 ports)).pending = [⟨.timer, .fail, .cmd 0x6 ports⟩] ∧
    ¬ ((issued .timer (.cmd 0x6 ports)).psState = .Armed ∧
      (issued .timer (.cmd 0x6 ports)).psCount = 0) := by decide +kernel

theorem wit_TableWordRunsNext : decodeTableWord 8 0xC = some .dspDisconnect ∧
    decodeTableWord 64 0xFF0301000022D1F1 = some (.frameReadReq 255 256 34 0xF1D1) := by decide

theorem wit_CrcComputeIsTheRegister : ∃ u, exec (.crcCompute [0x31]) s0 = .next u ∧
    u.result = .uint16 (crcOf [0x31]) := of_after (by decide +kernel)

theorem wit_CrcTableFormAgrees : ∃ t, exec (.crcCompute w8) s0 = .next t ∧ t.result = .uint16 0 :=
  of_after (by decide +kernel)

theorem wit_CrcVerifyOfTooFewBytes : ([] : Bytes).length < 2 ∧ ([0xFF] : Bytes).length < 2 := by decide

theorem wit_CrcResidueIsZero :
    (∃ t, exec (.crcAppend [0xFF, 0x03, 0x00]) s0 = .next t ∧
      t.result = .bytes [0xFF, 0x03, 0x00, 0x41, 0x00]) ∧
    2 ≤ ([0xFF, 0xFF] : Bytes).length ∧
    (∃ t, exec (.crcVerify [0xFF, 0xFF]) s0 = .next t ∧ t.result = .bool true) ∧
    (∃ u, exec (.crcCompute [0xFF, 0xFF]) s0 = .next u ∧ u.result = .uint16 0) :=
  ⟨of_after (by decide +kernel), by decide, of_after (by decide +kernel),
    of_after (by decide +kernel)⟩

theorem wit_SingleBitFlipDetected :
    (∃ t, exec (.crcVerify w8) s0 = .next t ∧ t.result = .bool true) ∧ 7 < w8.length ∧ 7 < 8 ∧
    5 ≤ w8.length := ⟨of_after (by decide +kernel), by decide, by decide, by decide⟩

/-- Both ends of the ranges, and one past (R142, R143). -/
theorem wit_EncReadResult :
    ((0 ≤ (0 : Int) ∧ (0 : Int) ≤ 255) ∧ (0 ≤ (0 : Int) ∧ (0 : Int) ≤ 65535) ∧
      (0 ≤ (65535 : Int) ∧ (65535 : Int) ≤ 65535)) ∧
    ¬ ((0 ≤ (256 : Int) ∧ (256 : Int) ≤ 255) ∧ (0 ≤ (0 : Int) ∧ (0 : Int) ≤ 65535) ∧
      (0 ≤ (0 : Int) ∧ (0 : Int) ≤ 65535)) := by decide

theorem wit_EncWriteResult :
    ((0 ≤ (255 : Int) ∧ (255 : Int) ≤ 255) ∧ (0 ≤ (65535 : Int) ∧ (65535 : Int) ≤ 65535) ∧
      (0 ≤ (0 : Int) ∧ (0 : Int) ≤ 65535)) ∧
    ¬ ((0 ≤ (255 : Int) ∧ (255 : Int) ≤ 255) ∧ (0 ≤ (0 : Int) ∧ (0 : Int) ≤ 65535) ∧
      (0 ≤ (65536 : Int) ∧ (65536 : Int) ≤ 65535)) := by decide

theorem wit_EncodedFramesDistinct :
    (∃ t, exec (.encRead 255 0x1234 0x0102) s0 = .next t ∧
      t.result = .ok (.frame [0xFF, 0x03, 0x12, 0x34, 0x01, 0x02, 0x94, 0xF3])) ∧
    (∃ t, exec (.encWrite 255 266 1) s0 = .next t ∧ t.result = .ok (.frame w8)) :=
  ⟨of_after (by decide +kernel), of_after (by decide +kernel)⟩

theorem wit_WriteEchoParses :
    ∃ t, exec (.encWrite 255 266 1) s0 = .next t ∧ t.result = .ok (.frame w8) :=
  of_after (by decide +kernel)

theorem wit_RequestRowsAreBuilt :
    (Instr.frameReadReq 255 256 34 0xF1D1).wellFormed = true ∧
    (Instr.frameWriteReq 255 266 1 0x2A7C).wellFormed = true := by decide +kernel

/-- A payload one byte short of the table, one that fits, the longest, and a wrong checksum. -/
theorem wit_ReadRspResult :
    tableSpan s0.cfg.fieldTable = 34 ∧ (payload30.take 33).length < 34 ∧
    34 ≤ payload30.length ∧ (List.replicate 255 (7 : Byte)).length ≤ 255 ∧
    0x7A34 = crcOf ([0xFF, 0x03, BitVec.ofNat 8 payload30.length] ++ payload30) ∧
    0x7A35 ≠ crcOf ([0xFF, 0x03, BitVec.ofNat 8 payload30.length] ++ payload30) := by
  decide +kernel

theorem wit_WriteRspResult : 0x2A7C = crcOf (header6 0x06 255 266 1) ∧
    0x7C2A ≠ crcOf (header6 0x06 255 266 1) := by decide +kernel

theorem wit_ReceivedFramesAreParsed : decode (.rxFrame w8) = .ok (.frameWriteRsp 255 266 1 0x2A7C) ∧
    decode (.rxFrame []) = .ok (.decParse []) := by decide +kernel

/-- One frame for each clause, at its boundary: 4 bytes, a broken checksum at 8, operation 9 at 5,
a byte count off by one, a short payload, an echo of 7 bytes and one of 9. -/
theorem wit_ErrorPriority :
    ([0xFF, 0x09, 0x80, 0x46] : Bytes).length < 5 ∧
    crcVerifies (flipBit w8 7 7) = false ∧ 5 ≤ (flipBit w8 7 7).length ∧
    crcVerifies [0xFF, 0x09, 0x00, 0x47, 0xA0] = true ∧
    ([0xFF, 0x09, 0x00, 0x47, 0xA0] : Bytes)[1]? = some 9 ∧
    crcVerifies (crcAppended ([0xFF, 0x03, 0x21] ++ payload30)) = true ∧
    (crcAppended ([0xFF, 0x03, 0x21] ++ payload30))[1]? = some 3 ∧
    (crcAppended ([0xFF, 0x03, 0x21] ++ payload30))[2]? = some 0x21 ∧
    (0x21 : Byte).toNat ≠ (crcAppended ([0xFF, 0x03, 0x21] ++ payload30)).length - 5 ∧
    crcVerifies [0xFF, 0x03, 0x02, 0x00, 0x64, 0x90, 0x7B] = true ∧
    (0x02 : Byte).toNat < tableSpan s0.cfg.fieldTable ∧
    crcVerifies [0xFF, 0x06, 0x01, 0x0A, 0x00, 0x67, 0xFC] = true ∧
    crcVerifies [0xFF, 0x06, 0x01, 0x0A, 0x00, 0x01, 0x00, 0x2B, 0xE1] = true ∧
    ([0xFF, 0x06, 0x01, 0x0A, 0x00, 0x67, 0xFC] : Bytes).length < 8 ∧
    8 < ([0xFF, 0x06, 0x01, 0x0A, 0x00, 0x01, 0x00, 0x2B, 0xE1] : Bytes).length ∧
    ¬ (0 ≤ (65536 : Int) ∧ (65536 : Int) ≤ 65535) := by decide +kernel

theorem wit_ErrorPriority_encoders :
    (∃ t, exec (.encRead 256 0 1) s0 = .next t ∧ t.result = .err (.encode .invalidArgument)) ∧
    (∃ t, exec (.encWrite 0 0 (-1)) s0 = .next t ∧ t.result = .err (.encode .invalidArgument)) :=
  ⟨of_after (by decide +kernel), of_after (by decide +kernel)⟩

theorem wit_TelemetryFields : 5 ≤ f30.length ∧ crcVerifies f30 = true ∧ f30[1]? = some 3 ∧
    f30[2]? = some 0x22 ∧ (0x22 : Byte).toNat = f30.length - 5 ∧
    tableSpan s0.cfg.fieldTable ≤ (0x22 : Byte).toNat := by decide +kernel

theorem wit_AckFields :
    crcVerifies [0xFF, 0x06, 0x01, 0x0A, 0x00, 0x01, 0x7C, 0x2A] = true := by decide +kernel

theorem wit_ParseReadsNoState : (armed 3 5 .HostStrobe).cfg = s0.cfg ∧
    (armed 3 5 .HostStrobe).psState ≠ s0.psState := by decide +kernel

theorem wit_BatteryPercentageScenario : payload30.length = 34 ∧
    tableSpan s0.cfg.fieldTable ≤ 34 ∧ s0.cfg.fieldTable.battery_percentage.scale = 1 ∧
    ube ((payload30.drop s0.cfg.fieldTable.battery_percentage.offset).take
      s0.cfg.fieldTable.battery_percentage.width) = 100 := by decide +kernel

theorem wit_PsStartArms : (1 : Int) ≤ 1 ∧ s0.psState = .Idle ∧
    (armed 0 5 .ReadCycle).psState = .Armed := by decide +kernel

theorem wit_StoppedIsTerminal : (1 : Int) ≤ 1 ∧ (s0.cancel).psState = .Stopped ∧
    ∃ t, exec .dspReady s0.cancel = .next t ∧ t.psState = .Armed :=
  ⟨by decide, rfl, of_after (by decide +kernel)⟩

theorem wit_PsStartBelowOneRefused : (0 : Int) < 1 := by decide

/-- Every case of PS.FIRE's action, and the re-arm taken and not taken. -/
theorem wit_PsFireEffect : (armed 0 5 .HostStrobe).psState = .Armed ∧
    (armed 0 5 .HostStrobe).psCount = 0 ∧ (armed 0 5 .HostStrobe).psOnfire = .HostStrobe ∧
    (armed 0 5 .ReadCycle).psOnfire = .ReadCycle ∧ (armed 0 5 .ReadCycle).txAnswer = .ok ∧
    (armed 0 5 .ReadCycle).psActive = true ∧
    ({ armed 0 5 .ReadCycle with txAnswer := .fail, psActive := false }).txAnswer = .fail ∧
    ({ armed 0 5 .ReadCycle with txAnswer := .fail, psActive := false }).psState = .Armed := by
  decide +kernel

/-- Not enabled: Idle at count 0, and Armed at count 1. -/
theorem wit_PsFireWhenExpired : ¬ (s0.psState = .Armed ∧ s0.psCount = 0) ∧
    ¬ ((armed 1 5 .ReadCycle).psState = .Armed ∧ (armed 1 5 .ReadCycle).psCount = 0) := by
  decide +kernel

theorem wit_SchedulerTransitionTable :
    (∃ t, exec (.psStart 1 .HostStrobe) s0.cancel = .next t ∧ t.psState = .Stopped) ∧
    (∃ t, exec (.psStart 1 .HostStrobe) s0 = .next t ∧ t.psState = .Armed) ∧
    (∃ t, exec .tick (armed 1 5 .HostStrobe) = .next t ∧ t.psCount = 0) ∧
    (∃ t, exec .psFire (armed 0 5 .HostStrobe) = .next t ∧ t.psCount = 5) ∧
    s0.slotConnected = .Default ∧ (∃ t, exec .dspReady s0 = .next t ∧ t.psCount = 5) :=
  ⟨of_after (by decide +kernel), of_after (by decide +kernel), of_after (by decide +kernel),
    of_after (by decide +kernel), by decide +kernel, of_after (by decide +kernel)⟩

/-- `s` with a custom `onConnected` slot, under which DSP.READY does not start polling. -/
def custom (s : State) : State := { s with slotConnected := .Custom }

/-- Under the default slot without DSP.READY, and under a custom one with it. -/
theorem wit_NothingFiresAfterStop : s0.cancel.psState = .Stopped ∧
    Instr.dspReady ∉ [Instr.psStart 2 .HostStrobe, .tick, .dspReadcycle] ∧
    (execAll [.psStart 2 .HostStrobe, .tick, .dspReadcycle] s0.cancel).isSome = true ∧
    (custom s0.cancel).psState = .Stopped ∧ (custom s0.cancel).slotConnected ≠ .Default ∧
    (execAll [.dspReady, .tick] (custom s0.cancel)).isSome = true := by
  decide +kernel

theorem wit_NoFireBeforeCountRunsDown : (armed 2 5 .HostStrobe).psState = .Armed ∧
    Instr.dspReady ∉ [Instr.tick, .dspReadcycle, .tick] ∧
    Instr.psFire ∉ [Instr.tick, .dspReadcycle, .tick] ∧
    (∀ n f, Instr.psStart n f ∉ [Instr.tick, .dspReadcycle, .tick]) ∧
    (execAll [.tick, .dspReadcycle, .tick, .psFire] (armed 2 5 .HostStrobe)).isSome = true ∧
    (custom (armed 2 5 .HostStrobe)).slotConnected ≠ .Default ∧
    (execAll [.tick, .dspReady, .tick, .psFire] (custom (armed 2 5 .HostStrobe))).isSome = true :=
  ⟨by decide +kernel, by decide, by decide, by intro n f h; simp at h, by decide +kernel,
    by decide +kernel, by decide +kernel⟩

theorem wit_FiresPerTicks : (1 : Nat) ≤ 2 ∧ s0.psState ≠ .Stopped ∧
    s0.txAnswer = .ok ∧ ({ s0 with txAnswer := .fail }).txAnswer = .fail ∧
    (execAll [.psStart (2 : Nat) .HostStrobe, .psStart (2 : Nat) .HostStrobe] s0).isSome = true ∧
    (execAll [.psStart (2 : Nat) .ReadCycle, .psStart (2 : Nat) .ReadCycle] s0).isSome = true := by
  decide +kernel

theorem timerOk_s0 : TimerOk s0 := by unfold TimerOk; decide +kernel

theorem wit_TimerInvariantKept : TimerOk (issued .host (.cmd 0x7 ports)) ∧
    ∃ t, step (issued .host (.cmd 0x7 ports)) = .next t :=
  ⟨by unfold TimerOk; decide +kernel, _, rfl⟩

/-- A run through arming, expiry, firing and starting again; the multiset is computed beside it. -/
theorem wit_AtMostOneTimer : TimerOk s0 ∧
    (execAllTimers [.psStart 2 .HostStrobe, .tick, .tick, .psFire, .psStart 3 .HostStrobe, .tick] s0
      (timers s0)).map (fun r => (r.1.psState, r.1.psCount, r.2)) = some (.Armed, 2, [2]) :=
  ⟨timerOk_s0, by decide +kernel⟩

theorem wit_DspReadyEffect : s0.slotConnected = .Default ∧
    ({ s0 with slotConnected := .Custom }).slotConnected = .Custom := by decide +kernel

theorem wit_DspReadcycleEffect : s0.txAnswer = .ok ∧
    ({ s0 with txAnswer := .fail }).txAnswer = .fail := by decide +kernel

/-- One frame for each result of the decoder, under both bindings of the data slot. -/
theorem wit_DspNotifyEffect :
    (∃ p, exec (.decParse f30) s0 = .next p ∧ p.result = .ok (.decoded (.telemetry r30))) ∧
    (∃ p, exec (.decParse w8) s0 = .next p ∧ p.result = .ok (.decoded (.writeAck ⟨266, 1⟩))) ∧
    (∃ p, exec (.decParse [0xFF, 0x09, 0x00, 0x47, 0xA0]) s0 = .next p ∧
      p.result = .err (.protocol (.unknownOperation 9))) ∧
    (∃ p, exec (.decParse []) s0 = .next p ∧ p.result = .err (.protocol .truncated)) ∧
    s0.slotData = .Bound ∧ ({ s0 with slotData := .Unbound }).slotData = .Unbound :=
  ⟨of_after (by decide +kernel), of_after (by decide +kernel), of_after (by decide +kernel),
    of_after (by decide +kernel), by decide +kernel, rfl⟩

theorem wit_DspSetloadEffect : (0 ≤ (65535 : Int) ∧ (65535 : Int) ≤ 65535) ∧
    ¬ (0 ≤ (65536 : Int) ∧ (65536 : Int) ≤ 65535) ∧ ¬ (0 ≤ (-1 : Int) ∧ (-1 : Int) ≤ 65535) ∧
    s0.txAnswer = .ok ∧ ({ s0 with txAnswer := .fail }).txAnswer = .fail := by decide +kernel

theorem wit_ReconnectStartsAfresh : (armed 2 5 .HostStrobe).slotConnected = .Default := by
  decide +kernel

theorem wit_ConnIsNeverRead :
    (∃ t, exec .dspReady s0 = .next t ∧ t.conn = .Ready) ∧
    exec .psFire s0 = .refused .fireNotEnabled :=
  ⟨of_after (by decide +kernel), by rw [exec, execPsFire, if_neg (by decide +kernel)]⟩

theorem wit_LastRecordLaw :
    (∃ t, exec (.dspNotify f30) s0 = .next t ∧ t.lastRecord = some r30) ∧
    (∃ p, exec (.decParse f30) s0 = .next p ∧ p.result = .ok (.decoded (.telemetry r30))) ∧
    (∃ t, exec .dspDisconnect s0 = .next t ∧ t.lastRecord = none) :=
  ⟨of_after (by decide +kernel), of_after (by decide +kernel), of_after (by decide +kernel)⟩

theorem wit_UnspecifiedRegistersUnread : s0.psState ≠ .Armed ∧
    (∃ t, exec (.psStart 1 .HostStrobe) s0 = .next t ∧ t.psState = .Armed) ∧
    exec .psFire s0 = .refused .fireNotEnabled :=
  ⟨by decide +kernel, of_after (by decide +kernel),
    by rw [exec, execPsFire, if_neg (by decide +kernel)]⟩

theorem wit_BootValuesNeverChange : ∃ t, step (issued .transport (.cmd 0x8 ports)) = .next t :=
  ⟨_, rfl⟩

theorem wit_TraceOnlyGrows : ∃ t, step (issued .transport (.cmd 0x8 ports)) = .next t ∧
    t.trace = [.sinkConnected] := ⟨_, rfl, by decide +kernel⟩

theorem wit_SentFramesStayValid : SentOk (issued .host (.cmd 0x9 ports)) ∧
    ∃ t, step (issued .host (.cmd 0x9 ports)) = .next t := by
  refine ⟨fun frame h => ?_, _, rfl⟩
  have : (issued .host (.cmd 0x9 ports)).trace = [] := by decide +kernel
  rw [this] at h
  cases h

theorem wit_ErrorsWriteNoState :
    (∃ t, exec .dspReadcycle { s0 with txAnswer := .fail } = .next t ∧
      t.result = .err (.transport .transportWriteFailed)) ∧
    (∃ t, exec (.decParse []) s0 = .next t ∧ t.result = .err (.protocol .truncated)) :=
  ⟨of_after (by decide +kernel), of_after (by decide +kernel)⟩

theorem wit_OnlyStopsLeaveArmed : (armed 2 5 .HostStrobe).psState = .Armed ∧
    ∃ t, exec .psStop (armed 2 5 .HostStrobe) = .next t ∧ t.psState = .Stopped :=
  ⟨by decide +kernel, of_after (by decide +kernel)⟩

theorem wit_MemReadAfterMemWrite : 6 + 2 ≤ w8.length ∧ 65535 < 2 ^ (8 * 2) ∧
    (5 < 6 ∨ 6 + 2 ≤ 5) := by decide

theorem wit_HeaderIsMemWritten : (List.replicate 6 (0 : Byte)).length = 6 := by decide

/-- TEST_TABLE_A is accepted, and meets the check. -/
theorem wit_FieldTableCheck : (∃ table, loadFieldTable tableA = .ok table) ∧
    FieldName.all.all (fun name => (tableA.filter (fun e => e.name == name)).length == 1) = true ∧
    tableA.all (fun e => decide (1 ≤ e.width ∧ e.offset + e.width ≤ 255)) = true :=
  ⟨⟨_, rfl⟩, by decide +kernel, by decide +kernel⟩

end Sys2Proof.Tests
end

section
/-! The step on an issued operation: what stands first, decodes and may be issued is performed (R60,
R65), and a word of the opcode table issued first is performed in the state it was issued in. -/

namespace Sys2Proof.Proofs.TableWord

open Sys2Proof Sys2Proof.Machine

/-- A step on a non-empty list of issued operations, in the good case of the fetch. -/
theorem step_of_pending {s : State} {iss : Issue} {rest : List Issue} {i : Instr}
    (hpending : s.pending = iss :: rest) (hdecode : decode iss.word = .ok i)
    (hissuer : mayIssue iss.issuer i = true) : step s = exec i (s.accept iss rest) := by
  have hfetch : fetch s = .run i (s.accept iss rest) := by
    simp [fetch, hpending, hdecode, hissuer]
  simp [step, hfetch]

/-- Performing what was just issued undoes the issue, but for the transport's answer issued with it. -/
theorem accept_issueFirst (s : State) (iss : Issue) :
    (s.issueFirst iss).accept iss s.pending = { s with txAnswer := iss.tx } := rfl

theorem decodeTableWord_eq_some_iff {nbits w : Nat} {i : Instr} :
    decodeTableWord nbits w = some i ↔ ∃ word, tableWord nbits w = some word ∧ decode word = .ok i := by
  unfold decodeTableWord
  cases tableWord nbits w with
  | none => simp
  | some word => cases hdecode : decode word <;> simp [hdecode]

/-- The issuer R95 lists first for an operation is one R96 and R278 admit: the restricted operations
are PS.FIRE and the three transport events, and these have their own line in `usualIssuer`. -/
theorem mayIssue_usualIssuer {word : OpWord} {i : Instr} (hdecode : decode word = .ok i) :
    mayIssue (usualIssuer word) i = true := by
  unfold usualIssuer
  rw [hdecode]
  cases i <;> rfl

theorem withFetchWord_of_tableWord (s : State) {nbits w : Nat} {word : OpWord}
    (hword : tableWord nbits w = some word) :
    s.withFetchWord nbits w = s.issueFirst ⟨usualIssuer word, s.txAnswer, word⟩ := by
  simp [State.withFetchWord, issueTableWord, hword]

/-- Settles O7: the word is issued first by an issuer that may issue it, and with the answer the
transport already gives, so that accepting it gives back the state it was issued in. -/
theorem tableWordRunsNext : Obligations.TableWordRunsNext := by
  intro s nbits w i htable
  obtain ⟨word, hword, hdecode⟩ := decodeTableWord_eq_some_iff.mp htable
  rw [withFetchWord_of_tableWord s hword,
    step_of_pending (State.issueFirst_pending s _) hdecode (mayIssue_usualIssuer hdecode),
    accept_issueFirst]

end Sys2Proof.Proofs.TableWord
end

section
/-! PS.FIRE under its enabling condition and without it (R205, R96). -/

namespace Sys2Proof.Proofs.PsFireEnabled

open Sys2Proof Sys2Proof.Machine

theorem fireEnabled_eq_true_iff {s : State} :
    fireEnabled s = true ↔ s.psState = .Armed ∧ s.psCount = 0 := by
  simp [fireEnabled]

theorem exec_psFire_next_of_fireEnabled {s : State} (henabled : fireEnabled s = true) :
    ∃ t, exec .psFire s = .next t :=
  ⟨_, if_pos henabled⟩

theorem exec_psFire_refused_of_not_fireEnabled {s : State} (hdisabled : ¬ fireEnabled s = true) :
    exec .psFire s = .refused .fireNotEnabled :=
  if_neg hdisabled

/-- Settles O33: the two branches of PS.FIRE answer a next state and the named refusal, so a next
state shows that the enabled branch was taken. -/
theorem psFireWhenExpired : Obligations.PsFireWhenExpired := by
  intro s
  rw [← fireEnabled_eq_true_iff]
  refine ⟨⟨exec_psFire_next_of_fireEnabled, ?_⟩, exec_psFire_refused_of_not_fireEnabled⟩
  rintro ⟨t, hnext⟩
  by_contra hdisabled
  rw [exec_psFire_refused_of_not_fireEnabled hdisabled] at hnext
  exact nomatch hnext

end Sys2Proof.Proofs.PsFireEnabled
end

section
/-! CRC.VERIFY on a body and two stored bytes (R123). -/

namespace Sys2Proof.Proofs.CrcVerify

open Sys2Proof Sys2Proof.Machine Sys2Proof.Safety

/-- Writing the result port is the whole effect of a pure operation (R128). -/
theorem onlyResult_setResult (s : State) (r : OpResult) : OnlyResult s (s.setResult r) := by
  simp [OnlyResult, SameState, SameScheduler, SameSession, SameSurroundings]

/-- The checksum field is little-endian (R13, R87). -/
theorem ule16_toNat (b0 b1 : Byte) : (ule16 b0 b1).toNat = b0.toNat + 256 * b1.toNat := by
  rw [ule16, wordOf_toNat, Nat.add_comm]

theorem exec_crcVerify (B : Bytes) (s : State) :
    exec (.crcVerify B) s = .next (s.setResult (.bool (crcVerifies B))) := rfl

/-- CRC.VERIFY compares words; words are equal when their numbers are. -/
theorem crcVerifies_append_eq_decide (X : Bytes) (b0 b1 : Byte) :
    crcVerifies (X ++ [b0, b1]) = decide ((crcOf X).toNat = b0.toNat + 256 * b1.toNat) := by
  rw [crcVerifies_append, ← ule16_toNat, Bool.beq_eq_decide_eq]
  exact decide_eq_decide.mpr BitVec.toNat_inj.symm

/-- Settles O10: the state CRC.VERIFY answers differs in the result port only, which holds the
comparison of the body's checksum with the two stored bytes. -/
theorem crcVerifyResult : Obligations.CrcVerifyResult := by
  intro X b0 b1 s
  refine ⟨_, exec_crcVerify _ s, onlyResult_setResult s _, ?_⟩
  rw [State.setResult_result, crcVerifies_append_eq_decide]

end Sys2Proof.Proofs.CrcVerify
end

section
/-! DEC.PARSE: what it answers and leaves unchanged (R160, R173), and its acknowledgement path
(R169). -/

namespace Sys2Proof.Proofs.DecParse

open Sys2Proof Sys2Proof.Machine Sys2Proof.Safety Sys2Proof.Proofs.CrcVerify

theorem exec_decParse_of_parse_ok {B : Bytes} {s : State} {d : Decoded}
    (hparse : parse s.cfg B = .ok d) :
    exec (.decParse B) s = .next (s.setResult (.ok (.decoded d))) :=
  congrArg (answerParsed · s) hparse

theorem exec_decParse_of_parse_err {B : Bytes} {s : State} {e : ProtocolError}
    (hparse : parse s.cfg B = .err e) :
    exec (.decParse B) s = .next (s.setResult (.err (.protocol e))) :=
  congrArg (answerParsed · s) hparse

/-- The configuration and the bytes alone determine what DEC.PARSE puts on the result port, and the
result port is all it writes (R173). -/
theorem exists_result_exec_decParse (cfg : Config) (B : Bytes) :
    ∃ r, ∀ s : State, s.cfg = cfg → exec (.decParse B) s = .next (s.setResult r) := by
  cases hparse : parse cfg B with
  | ok d => exact ⟨_, fun s hcfg => exec_decParse_of_parse_ok (hcfg ▸ hparse)⟩
  | err e => exact ⟨_, fun s hcfg => exec_decParse_of_parse_err (hcfg ▸ hparse)⟩

/-- A verified frame with the write operation's code takes the acknowledgement path (R174). -/
theorem parse_eq_parseAck {cfg : Config} {B : Bytes} (hlen : 5 ≤ B.length)
    (hcrc : crcVerifies B = true) (hop : byteAt B 1 = 6) : parse cfg B = parseAck B := by
  have hread : ¬ byteAt B 1 = 3 := by rw [hop]; decide
  rw [parse_eq, if_neg (Nat.not_lt.mpr hlen), hcrc, if_neg (by simp), if_neg hread, if_pos hop]

/-- A MemRead of two bytes is the word of them, the first one high (R56, R86). -/
theorem ofNat_ube_pair (hi lo : Byte) : BitVec.ofNat 16 (ube [hi, lo]) = wordOf hi lo := by
  have hube : ube [hi, lo] = (wordOf hi lo).toNat := by simp [ube, wordOf_toNat]
  rw [hube, BitVec.ofNat_toNat, BitVec.setWidth_eq]

/-- The acknowledgement of eight bytes holds the words at bytes 2 and 4 (R169). -/
theorem parseAck_eight (a op r1 r0 v1 v0 c0 c1 : Byte) :
    parseAck [a, op, r1, r0, v1, v0, c0, c1] =
      .ok (.writeAck ⟨wordOf r1 r0, wordOf v1 v0⟩) := by
  rw [← ofNat_ube_pair r1 r0, ← ofNat_ube_pair v1 v0]
  rfl

/-- Settles O25: the frame takes the acknowledgement path, whose two words have the big-endian
values of their bytes. -/
theorem ackFields : Obligations.AckFields := by
  intro a r1 r0 v1 v0 c0 c1 s hcrc
  have hparse : parse s.cfg [a, 0x06, r1, r0, v1, v0, c0, c1] =
      .ok (.writeAck ⟨wordOf r1 r0, wordOf v1 v0⟩) := by
    rw [parse_eq_parseAck (by simp) hcrc rfl, parseAck_eight]
  exact ⟨_, _, exec_decParse_of_parse_ok hparse, onlyResult_setResult s _, rfl,
    wordOf_toNat r1 r0, wordOf_toNat v1 v0⟩

/-- Settles O26: the two states have one configuration, which with the bytes determines the
result. -/
theorem parseReadsNoState : Obligations.ParseReadsNoState := by
  intro B s s' hcfg
  obtain ⟨r, hexec⟩ := exists_result_exec_decParse s.cfg B
  exact ⟨s.setResult r, s'.setResult r, hexec s rfl, hexec s' hcfg, rfl,
    onlyResult_setResult s r, onlyResult_setResult s' r⟩

end Sys2Proof.Proofs.DecParse
end

section
/-! PS.START where it arms (R201), and PS.STOP (R208): the state each one answers, and that both
leave the session, the surroundings and the trace alone. -/

namespace Sys2Proof.Proofs.PsStartStop

open Sys2Proof Sys2Proof.Machine Sys2Proof.Safety

/-- PS.START with an admissible interval outside Stopped is the update of R201. -/
theorem exec_psStart_of_ne_stopped {n : Int} {s : State} (f : OnFire) (hinterval : 1 ≤ n)
    (hstate : s.psState ≠ .Stopped) :
    exec (.psStart n f) s = .next ((s.arm n.toNat f).setResult .none) := by
  have hstart : startTimer n.toNat f s = s.arm n.toNat f := by
    rcases startTimer_cases n.toNat f s with ⟨hstopped, -⟩ | ⟨-, harm⟩
    · exact absurd hstopped hstate
    · exact harm
  calc exec (.psStart n f) s
    _ = ret .none (startTimer n.toNat f s) := if_neg (Int.not_lt.mpr hinterval)
    _ = .next ((s.arm n.toNat f).setResult .none) := by rw [hstart, ret]

theorem exec_psStop (s : State) : exec .psStop s = .next (s.cancel.setResult .none) := rfl

/-- A second cancel finds every register it writes already written (R208). -/
theorem cancel_setResult_idem (s : State) (r : OpResult) :
    (s.cancel.setResult r).cancel.setResult r = s.cancel.setResult r := rfl

/-- Settles O29: outside Stopped PS.START arms the timer, and the interval, being at least 1, is the
natural number the register holds. -/
theorem psStartArms : Obligations.PsStartArms := by
  intro n f s hinterval hstate
  have hne : s.psState ≠ .Stopped := by rcases hstate with h | h <;> simp [h]
  have hnat : (n.toNat : Int) = n := Int.toNat_of_nonneg (by omega)
  refine ⟨_, exec_psStart_of_ne_stopped f hinterval hne, hnat, rfl, ?_, rfl, rfl, ⟨rfl, rfl⟩,
    ⟨rfl, rfl, rfl, rfl, rfl⟩, rfl⟩
  rw [State.setResult_psCount, State.arm_psCount, Nat.cast_mul, hnat]

/-- Settles O34: PS.STOP is the cancelling update in every state, and that update is idempotent. -/
theorem psStopEffect : Obligations.PsStopEffect := by
  intro s
  have hagain : exec .psStop (s.cancel.setResult .none) = .next (s.cancel.setResult .none) := by
    rw [exec_psStop, cancel_setResult_idem]
  exact ⟨_, exec_psStop s, rfl, rfl, rfl, rfl, rfl, ⟨rfl, rfl⟩, ⟨rfl, rfl, rfl, rfl, rfl⟩, rfl, hagain⟩

end Sys2Proof.Proofs.PsStartStop
end

section
/-! Runs from a stopped scheduler (R202, R205, R208, R236, R275): what one operation can do there,
and what a run of them can. -/

namespace Sys2Proof.Proofs.AfterStop

open Sys2Proof Sys2Proof.Machine Sys2Proof.Safety Sys2Proof.Proofs.PsFireEnabled

/-- A run is its first operation, performed, and a run of the others. -/
theorem execAll_cons_eq_some_iff {i : Instr} {ops : List Instr} {s t : State} :
    execAll (i :: ops) s = some t ↔ ∃ u, exec i s = .next u ∧ execAll ops u = some t := by
  rw [execAll]
  cases exec i s <;> simp

/-- The outputs that only a fire produces are absent (R206). The request frame of a poll is not one of
them: DSP.READCYCLE sends the same frame (R233). -/
def Quiet (out : List Output) : Prop := Output.hostFire ∉ out ∧ ∀ e, Output.err e ∉ out

theorem quiet_nil : Quiet [] := by simp [Quiet]

theorem Quiet.append {out out' : List Output} (h : Quiet out) (h' : Quiet out') :
    Quiet (out ++ out') := by
  obtain ⟨hfire, herr⟩ := h
  obtain ⟨hfire', herr'⟩ := h'
  simp [Quiet, hfire, herr, hfire', herr']

theorem quiet_deliverOutputs (slot : SlotData) (r : Result Decoded ProtocolError) :
    Quiet (deliverOutputs slot r) := by
  obtain ⟨hfire, herr, -⟩ := deliverOutputs_quiet slot r
  exact ⟨hfire, herr⟩

/-- `t` comes after `s` with the scheduler stopped, and between them nothing was emitted that shows a
fire. The slot is kept because it decides whether a DSP.READY starts polling (R231). -/
structure StoppedQuietly (s t : State) : Prop where
  stopped : t.psState = .Stopped
  slot : t.slotConnected = s.slotConnected
  outputs : ∃ out, t.trace = s.trace ++ out ∧ Quiet out

theorem StoppedQuietly.of_trace_eq {s t : State} (hstopped : t.psState = .Stopped)
    (hslot : t.slotConnected = s.slotConnected) (htrace : t.trace = s.trace) :
    StoppedQuietly s t :=
  ⟨hstopped, hslot, [], by rw [htrace, List.append_nil], quiet_nil⟩

theorem StoppedQuietly.trans {s t u : State} (hst : StoppedQuietly s t)
    (htu : StoppedQuietly t u) : StoppedQuietly s u := by
  obtain ⟨-, hslot, out, htrace, hquiet⟩ := hst
  obtain ⟨hstopped, hslot', out', htrace', hquiet'⟩ := htu
  exact ⟨hstopped, hslot'.trans hslot, out ++ out',
    by rw [htrace', htrace, List.append_assoc], hquiet.append hquiet'⟩

/-- PS.FIRE is enabled in Armed only (R205). -/
theorem not_fireEnabled_of_stopped {s : State} (hstopped : s.psState = .Stopped) :
    ¬ fireEnabled s = true := by
  simp [fireEnabled_eq_true_iff, hstopped]

/-- An operation performed in Stopped is no PS.FIRE, which is refused there (R96). -/
theorem ne_psFire_of_exec_stopped {i : Instr} {s t : State} (hstopped : s.psState = .Stopped)
    (hexec : exec i s = .next t) : i ≠ .psFire := by
  rintro rfl
  rw [exec_psFire_refused_of_not_fireEnabled (not_fireEnabled_of_stopped hstopped)] at hexec
  exact nomatch hexec

/-- What one operation can do in Stopped, but for the DSP.READY that starts polling, by the shapes of
effect an operation can have: those that would arm or fire the timer do not occur there (R202, R205),
and the others leave the scheduler stopped. -/
theorem stoppedQuietly_of_exec {i : Instr} {s t : State} (hstopped : s.psState = .Stopped)
    (hready : s.slotConnected = .Default → i ≠ .dspReady) (hexec : exec i s = .next t) :
    StoppedQuietly s t := by
  have hdisabled := not_fireEnabled_of_stopped hstopped
  rcases exec_next_cases hexec with ⟨r, rfl⟩ | ⟨frame, r, rfl, -⟩ | ⟨n, f, -, -, hne, -⟩ |
    ⟨-, henabled, -⟩ | ⟨-, henabled, -⟩ | ⟨-, rfl⟩ | ⟨-, rfl⟩ | ⟨-, -, rfl⟩ | ⟨hi, hslot, -⟩ |
    ⟨buf, -, rfl⟩ | ⟨-, rfl⟩
  · exact .of_trace_eq hstopped rfl rfl
  · exact ⟨hstopped, rfl, [.txWrite frame], rfl, by simp [Quiet]⟩
  · exact absurd hstopped hne
  · exact absurd henabled hdisabled
  · exact absurd henabled hdisabled
  · exact .of_trace_eq rfl rfl rfl
  · exact .of_trace_eq hstopped rfl rfl
  · exact ⟨hstopped, rfl, [.sinkConnected], rfl, by simp [Quiet]⟩
  · exact absurd hi (hready hslot)
  · rw [deliver_eq]
    exact ⟨hstopped, rfl, _, rfl, quiet_deliverOutputs _ _⟩
  · exact .of_trace_eq rfl rfl rfl

/-- The step lemma along a run: each operation is performed in Stopped under the first state's slot,
so none is a PS.FIRE and the quiet outputs add up. -/
theorem stoppedQuietly_of_execAll {ops : List Instr} {s t : State} (hstopped : s.psState = .Stopped)
    (hready : s.slotConnected = .Default → Instr.dspReady ∉ ops)
    (hrun : execAll ops s = some t) : StoppedQuietly s t ∧ Instr.psFire ∉ ops := by
  induction ops generalizing s with
  | nil =>
    obtain rfl : s = t := Option.some.inj hrun
    exact ⟨.of_trace_eq hstopped rfl rfl, List.not_mem_nil⟩
  | cons i ops ih =>
    obtain ⟨u, hexec, hrest⟩ := execAll_cons_eq_some_iff.mp hrun
    have hfirst : StoppedQuietly s u := stoppedQuietly_of_exec hstopped
      (fun hslot => Ne.symm (List.ne_of_not_mem_cons (hready hslot))) hexec
    have hreadyRest : u.slotConnected = .Default → Instr.dspReady ∉ ops := fun hslot =>
      List.not_mem_of_not_mem_cons (hready (hfirst.slot ▸ hslot))
    obtain ⟨hquiet, hnofire⟩ := ih hfirst.stopped hreadyRest hrest
    exact ⟨hfirst.trans hquiet,
      List.not_mem_cons_of_ne_of_not_mem (ne_psFire_of_exec_stopped hstopped hexec).symm hnofire⟩

/-- Settles O36: it is what holds along every run from a stopped scheduler. -/
theorem nothingFiresAfterStop : Obligations.NothingFiresAfterStop := by
  intro ops s t hstopped hready hrun
  obtain ⟨⟨hstopped', -, out, htrace, hfire, herr⟩, hnofire⟩ :=
    stoppedQuietly_of_execAll hstopped hready hrun
  exact ⟨hstopped', hnofire, out, htrace, hfire, herr⟩

end Sys2Proof.Proofs.AfterStop
end

section
/-! DSP.READCYCLE (R233): the frame of ENC.READ for the configured fields, handed to the transport. -/

namespace Sys2Proof.Proofs.ReadCycle

open Sys2Proof Sys2Proof.Machine Sys2Proof.Safety

/-- A transport write of the configured poll request is the whole meaning of DSP.READCYCLE (R233). -/
theorem exec_dspReadcycle (s : State) :
    exec .dspReadcycle s = answerSent (transmit (pollRequest s.cfg) s) := rfl

/-- On the configured fields, which always fit their operands (R241), ENC.READ answers the poll
request (R233). -/
theorem exec_encRead_configured (s : State) :
    exec (.encRead s.cfg.deviceAddress.toNat s.cfg.readRegister.toNat
      s.cfg.readWordcount.toNat) s = .next (s.setResult (.ok (.frame (pollRequest s.cfg)))) := by
  rw [exec, execEncRead, encodeRequest_fields, answerEncoded_next, pollRequest]

/-- An output and the result port are no register (R33, R34). -/
theorem sameState_emit_setResult (s : State) (o : Output) (r : OpResult) :
    SameState s ((s.emit o).setResult r) := by
  simp [SameState, SameScheduler, SameSession, SameSurroundings]

/-- Settles O43: DSP.READCYCLE writes the frame of `exec_encRead_configured` to the transport, and its
result is `answerSent_transmit`'s, by the two answers of the transport. -/
theorem dspReadcycleEffect : Obligations.DspReadcycleEffect := by
  intro s
  have hnext := (exec_dspReadcycle s).trans (answerSent_transmit (pollRequest s.cfg) s)
  refine ⟨_, _, pollRequest s.cfg, hnext, exec_encRead_configured s, rfl, rfl,
    sameState_emit_setResult s _ _, ?ok, ?fail⟩
  case ok => intro hok; rw [hok, State.setResult_result]
  case fail => intro hfail; rw [hfail, State.setResult_result]

end Sys2Proof.Proofs.ReadCycle
end

section
/-! Operations that raise (R14, R268): where an error on the result port can come from, and what the
operation had done by then. -/

namespace Sys2Proof.Proofs.Errors

open Sys2Proof Sys2Proof.Machine Sys2Proof.Safety Sys2Proof.Proofs.CrcVerify
  Sys2Proof.Proofs.ReadCycle

/-- The only error of a transport write is the transport's own (R237). -/
theorem next_err_of_answerSent_transmit {frame : Bytes} {s t : State} {e : ErrorKind}
    (hnext : answerSent (transmit frame s) = .next t) (herr : t.result = .err e) :
    t = (s.emit (.txWrite frame)).setResult (.err e) ∧ e = .transport .transportWriteFailed := by
  rw [answerSent_transmit] at hnext
  obtain rfl := Host.Outcome.next.inj hnext
  rw [State.setResult_result] at herr
  cases htx : s.txAnswer with
  | ok => simp [htx] at herr
  | fail =>
    obtain rfl : .transport .transportWriteFailed = e := by simpa [htx] using herr
    exact ⟨rfl, rfl⟩

/-- On an operand in range DSP.SETLOAD is a transport write of the write request (R235). -/
theorem exec_dspSetload_of_inRange {v : Int} (s : State) (hlow : 0 ≤ v) (hhigh : v ≤ 65535) :
    exec (.dspSetload v) s =
      answerSent (transmit (requestFrame Config.opWrite s.cfg.deviceAddress s.cfg.loadRegister
        (BitVec.ofInt 16 v)) s) := by
  have hencode : encodeRequest Config.opWrite s.cfg.deviceAddress.toNat s.cfg.loadRegister.toNat v =
      .ok (requestFrame Config.opWrite s.cfg.deviceAddress s.cfg.loadRegister
        (BitVec.ofInt 16 v)) := by
    rw [encodeRequest_inRange (by have := s.cfg.deviceAddress.isLt; omega)
      (by have := s.cfg.loadRegister.isLt; omega) ⟨hlow, hhigh⟩]
    simp
  simp only [exec, execDspSetload, hencode]

/-- The three ways an operation completes: it writes the result port only, it is a transport write,
or it puts no result on the port, and then no error either (R95, R268). -/
theorem exec_next_result_cases {i : Instr} {s t : State} (hexec : exec i s = .next t) :
    (∃ r, t = s.setResult r) ∨ (∃ frame, exec i s = answerSent (transmit frame s)) ∨
      t.result = .none := by
  rcases exec_next_cases hexec with hpure | ⟨frame, r, -, hsend⟩ | hother
  · exact .inl hpure
  · refine .inr (.inl ⟨frame, ?_⟩)
    rcases hsend with ⟨rfl, rfl⟩ | ⟨v, rfl, hlow, hhigh, rfl⟩
    · exact exec_dspReadcycle s
    · exact exec_dspSetload_of_inRange s hlow hhigh
  · refine .inr (.inr ?_)
    rcases hother with ⟨n, f, -, -, -, rfl⟩ | ⟨-, -, -, rfl⟩ | ⟨-, -, -, rfl⟩ | ⟨-, rfl⟩ |
      ⟨-, rfl⟩ | ⟨-, -, rfl⟩ | ⟨-, -, rfl⟩ | ⟨buf, -, rfl⟩ | ⟨-, rfl⟩ <;> rfl

/-- Settles O55: an operation with an error either wrote the result port only or is a transport write
that failed, and an operation that writes registers puts no result on the port. -/
theorem errorsWriteNoState : Obligations.ErrorsWriteNoState := by
  intro i s t e hexec herr
  rcases exec_next_result_cases hexec with ⟨r, rfl⟩ | ⟨frame, hsend⟩ | hnone
  · obtain ⟨hsame, htrace⟩ := onlyResult_setResult s r
    exact ⟨hsame, .inl htrace⟩
  · obtain ⟨rfl, hfailed⟩ := next_err_of_answerSent_transmit (hsend.symm.trans hexec) herr
    exact ⟨sameState_emit_setResult s _ _, .inr ⟨frame, rfl, hfailed⟩⟩
  · exact nomatch hnone.symm.trans herr

end Sys2Proof.Proofs.Errors
end

section
/-! The checksum register (R122): the shift step is linear and loses nothing, and a word whose
low byte is zero is shifted out as it stands. From these: the byte-wise table form, the residue
zero, and that two sequences which differ in one byte have different checksums. -/

namespace Sys2Proof.Proofs.CrcRegister

open Sys2Proof Sys2Proof.Machine

/-- The shift step as a plain shift, plus the polynomial when a one is shifted out (R122). -/
theorem crcBit_eq_xor (c : Word) :
    crcBit c = (c >>> 1) ^^^ (if c.getLsbD 0 then 0xA001#16 else 0#16) := by
  unfold crcBit
  split
  · rfl
  · exact BitVec.xor_zero.symm

/-- The shift step of a sum of two registers is the sum of their shift steps (R122): where both
shift out a one, the two polynomials cancel. -/
theorem crcBit_xor (x y : Word) : crcBit (x ^^^ y) = crcBit x ^^^ crcBit y := by
  have hpoly (a b : Bool) : (if (a ^^ b) then 0xA001#16 else 0#16) =
      (if a then 0xA001#16 else 0#16) ^^^ (if b then 0xA001#16 else 0#16) := by
    cases a <;> cases b <;> rfl
  simp only [crcBit_eq_xor, BitVec.getLsbD_xor, BitVec.ushiftRight_xor_distrib, hpoly]
  ac_rfl

/-- The polynomial's top bit shows that a one was shifted out, so only zero steps to zero. -/
theorem eq_zero_of_crcBit_eq_zero {x : Word} (h : crcBit x = 0) : x = 0 := by
  unfold crcBit at h
  split at h
  next hone =>
    have htop := congrArg (·.getLsbD 15) h
    simp at htop
  next hzero =>
    have hhigh : x.toNat / 2 = 0 := by
      simpa [Nat.shiftRight_eq_div_pow] using congrArg BitVec.toNat h
    have hlow : x.toNat % 2 = 0 := by simpa [BitVec.getLsbD, Nat.testBit_zero] using hzero
    exact BitVec.eq_of_toNat_eq (show x.toNat = 0 by omega)

theorem crcBit_injective : Function.Injective crcBit := by
  intro x y h
  have hzero : crcBit (x ^^^ y) = 0#16 := by rw [crcBit_xor, h, BitVec.xor_self]
  exact BitVec.xor_eq_zero_iff.mp (eq_zero_of_crcBit_eq_zero hzero)

theorem crcShift8_eq_iterate (c : Word) : crcShift8 c = crcBit^[8] c := rfl

theorem crcShift8_injective : Function.Injective crcShift8 := crcBit_injective.iterate 8

theorem crcShift8_xor (x y : Word) : crcShift8 (x ^^^ y) = crcShift8 x ^^^ crcShift8 y := by
  simp only [crcShift8, crcBit_xor]

/-- While only zeros are shifted out, the shift steps are plain shifts. -/
theorem iterate_crcBit_of_low_zero {c : Word} {k : Nat} (h : ∀ i < k, c.getLsbD i = false) :
    crcBit^[k] c = c >>> k := by
  induction k with
  | zero => simp
  | succ k ih =>
    have hbit : (c >>> k).getLsbD 0 = false := by simpa using h k k.lt_succ_self
    rw [Function.iterate_succ_apply', ih fun i hi => h i (by omega), crcBit, hbit,
      if_neg (by simp), BitVec.shiftRight_add]

theorem getLsbD_wordOf (hi lo : Byte) (i : Nat) :
    (wordOf hi lo).getLsbD i = if i < 8 then lo.getLsbD i else hi.getLsbD (i - 8) := by
  rw [← BitVec.getLsbD_append]; rfl

/-- A byte is xored into the low byte of the register (R122). -/
theorem wordOf_xor_byte (hi lo b : Byte) :
    wordOf hi lo ^^^ b.zeroExtend 16 = wordOf hi (lo ^^^ b) := by
  refine BitVec.eq_of_getLsbD_eq fun i hi16 => ?_
  rw [BitVec.getLsbD_xor, getLsbD_wordOf, getLsbD_wordOf, BitVec.getLsbD_setWidth]
  by_cases hlow : i < 8
  · simp [hlow, hi16]
  · simp [hlow, BitVec.getLsbD_of_ge b i (by omega)]

/-- A word is its high byte plus its low byte, as bit strings. -/
theorem wordOf_eq_xor (hi lo : Byte) : wordOf hi lo = wordOf hi 0 ^^^ lo.zeroExtend 16 := by
  rw [wordOf_xor_byte]; simp

theorem wordOf_zero (lo : Byte) : wordOf 0 lo = lo.zeroExtend 16 := by
  apply BitVec.eq_of_toNat_eq
  have := lo.isLt
  simp [wordOf_toNat]
  omega

theorem wordOf_ushiftRight_eight (hi lo : Byte) : wordOf hi lo >>> 8 = wordOf 0 hi := by
  apply BitVec.eq_of_toNat_eq
  have := lo.isLt
  simp [wordOf_toNat, Nat.shiftRight_eq_div_pow]
  omega

theorem wordOf_and_low (hi lo : Byte) : (wordOf hi lo &&& 0xFF#16).toNat = lo.toNat := by
  have := lo.isLt
  rw [BitVec.toNat_and, wordOf_toNat, show (0xFF#16).toNat = 2 ^ 8 - 1 from rfl,
    Nat.and_two_pow_sub_one_eq_mod]
  omega

/-- The high byte meets no polynomial in eight shift steps: it only moves down. -/
theorem crcShift8_wordOf (hi lo : Byte) :
    crcShift8 (wordOf hi lo) = wordOf 0 hi ^^^ crcShift8 (wordOf 0 lo) := by
  have hhigh : crcShift8 (wordOf hi 0) = wordOf 0 hi := by
    rw [crcShift8_eq_iterate, iterate_crcBit_of_low_zero, wordOf_ushiftRight_eight]
    intro i hi8
    simp [getLsbD_wordOf, hi8]
  rw [wordOf_eq_xor hi lo, crcShift8_xor, hhigh, wordOf_zero lo]

/-- One byte of the checksum, by the two bytes of the register (R122). -/
theorem crcByte_wordOf (hi lo b : Byte) :
    crcByte (wordOf hi lo) b = wordOf 0 hi ^^^ crcShift8 (wordOf 0 (lo ^^^ b)) := by
  rw [crcByte, wordOf_xor_byte, crcShift8_wordOf]

/-- Every word is the word of its two bytes. -/
theorem exists_eq_wordOf (c : Word) : ∃ hi lo, c = wordOf hi lo :=
  ⟨hiByte c, loByte c, (wordOf_bytes c).symm⟩

/-- The entry of the table for a byte (R122). -/
theorem crcTable_getD (b : Byte) : crcTable.getD b.toNat 0 = crcShift8 (wordOf 0 b) := by
  have hlt : b.toNat < 256 := b.isLt
  have hext : BitVec.ofNat 16 b.toNat = wordOf 0 b := by
    apply BitVec.eq_of_toNat_eq
    simp [wordOf_toNat]
    omega
  simp [crcTable, hlt, hext]

/-- The byte-wise step of R122 is the bit-serial one: the register's high byte moves down, and the
table holds what the eight shift steps make of the low byte. -/
theorem crcByteByTable_eq (c : Word) (b : Byte) : crcByteByTable c b = crcByte c b := by
  obtain ⟨hi, lo, rfl⟩ := exists_eq_wordOf c
  rw [crcByteByTable, wordOf_ushiftRight_eight, wordOf_xor_byte, wordOf_and_low, crcTable_getD,
    crcByte_wordOf]

theorem crcOfByTable_eq (X : Bytes) : crcOfByTable X = crcOf X := by
  rw [crcOfByTable, show crcByteByTable = crcByte from funext₂ crcByteByTable_eq]
  rfl

/-- A register run over its own bytes, low byte first, ends at zero (R127): the low byte cancels,
the high byte moves down, and cancels too. -/
theorem crcFrom_own_bytes (b0 b1 : Byte) : crcFrom (ule16 b0 b1) [b0, b1] = 0 := by
  have hzero : crcShift8 (wordOf 0 0#8) = 0#16 := by decide
  have hlow : crcByte (wordOf b1 b0) b0 = wordOf 0 b1 := by
    rw [crcByte_wordOf, BitVec.xor_self, hzero, BitVec.xor_zero]
  calc crcFrom (ule16 b0 b1) [b0, b1]
    _ = crcByte (crcByte (wordOf b1 b0) b0) b1 := rfl
    _ = crcByte (wordOf 0 b1) b1 := by rw [hlow]
    _ = 0 := by rw [crcByte_wordOf, BitVec.xor_self, hzero, BitVec.xor_zero]; rfl

theorem crcByte_left_injective (b : Byte) : Function.Injective (crcByte · b) := by
  intro c d h
  exact (BitVec.xor_left_inj _).mp (crcShift8_injective h)

theorem crcByte_right_injective (c : Word) : Function.Injective (crcByte c) := by
  intro a b h
  have hext : wordOf 0 a = wordOf 0 b := by
    rw [wordOf_zero, wordOf_zero]
    exact (BitVec.xor_right_inj _).mp (crcShift8_injective h)
  simpa using congrArg loByte hext

theorem crcFrom_injective (X : Bytes) : Function.Injective (crcFrom · X) := by
  induction X with
  | nil => exact fun c d h => h
  | cons b X ih => exact fun c d h => crcByte_left_injective b (ih h)

/-- Two stored bytes clear the register exactly when they are its own. -/
theorem crcFrom_pair_eq_zero_iff (c : Word) (b0 b1 : Byte) :
    crcFrom c [b0, b1] = 0 ↔ c = ule16 b0 b1 := by
  rw [← crcFrom_own_bytes b0 b1]
  exact (crcFrom_injective [b0, b1]).eq_iff

/-- CRC.VERIFY is a comparison of the register over the whole sequence with zero (R127). -/
theorem crcVerifies_iff_crcOf_eq_zero {B : Bytes} (hlen : 2 ≤ B.length) :
    crcVerifies B = true ↔ crcOf B = 0 := by
  obtain ⟨X, b0, b1, rfl⟩ := exists_body_stored hlen
  have hsplit : crcOf (X ++ [b0, b1]) = crcFrom (crcOf X) [b0, b1] := crcFrom_append _ X [b0, b1]
  rw [crcVerifies_append, beq_iff_eq, hsplit, crcFrom_pair_eq_zero_iff]

theorem two_le_length_of_crcVerifies {B : Bytes} (h : crcVerifies B = true) : 2 ≤ B.length := by
  by_contra hshort
  rw [crcVerifies, if_pos (by omega)] at h
  exact nomatch h

/-- CRC.VERIFY of a body and a checksum field, low byte first, compares the two words (R123). -/
theorem crcVerifies_append_le16 (X : Bytes) (c : Word) :
    crcVerifies (X ++ le16 c) = (crcOf X == c) := by
  rw [le16, crcVerifies_append, ule16, wordOf_bytes]

/-- What CRC.APPEND builds verifies (R126). -/
theorem crcVerifies_crcAppended (X : Bytes) : crcVerifies (crcAppended X) = true := by
  rw [crcAppended, crcVerifies_append_le16, beq_self_eq_true]

/-- Two sequences of one length that differ in one byte have different checksums (R129): from equal
registers the two bytes lead to different ones, and the rest of the bytes keeps them apart. -/
theorem crcOf_ne_of_byte_ne (X Y : Bytes) {a b : Byte} (h : a ≠ b) :
    crcOf (X ++ a :: Y) ≠ crcOf (X ++ b :: Y) := by
  intro heq
  simp only [crcOf, crcFrom_append] at heq
  exact h (crcByte_right_injective _ (crcFrom_injective Y heq))

end Sys2Proof.Proofs.CrcRegister
end

section
/-! DEC.PARSE, one lemma per step of its algorithm (R161 to R170, R174): the first step that applies
decides the result. -/

namespace Sys2Proof.Proofs.ParseSteps

open Sys2Proof Sys2Proof.Machine

variable {cfg : Config} {B : Bytes}

/-- Step 1 (R161). -/
theorem parse_of_short (hlen : B.length < 5) : parse cfg B = .err .truncated := by
  rw [parse_eq, if_pos hlen]

/-- Step 2 (R162). -/
theorem parse_of_not_crcVerifies (hlen : 5 ≤ B.length) (hcrc : crcVerifies B = false) :
    parse cfg B = .err .checksumMismatch := by
  rw [parse_eq, if_neg (Nat.not_lt.mpr hlen), hcrc, if_pos (by decide)]

/-- Step 3 for the code of a read (R163, R174). -/
theorem parse_eq_parseTelemetry (hlen : 5 ≤ B.length) (hcrc : crcVerifies B = true)
    (hop : byteAt B 1 = 3) : parse cfg B = parseTelemetry cfg B := by
  rw [parse_eq, if_neg (Nat.not_lt.mpr hlen), hcrc, if_neg (by decide), if_pos hop]

/-- Step 3 for a code that is neither a read's nor a write's (R163). -/
theorem parse_of_unknown_operation (hlen : 5 ≤ B.length) (hcrc : crcVerifies B = true)
    (hread : byteAt B 1 ≠ 3) (hwrite : byteAt B 1 ≠ 6) :
    parse cfg B = .err (.unknownOperation (byteAt B 1)) := by
  rw [parse_eq, if_neg (Nat.not_lt.mpr hlen), hcrc, if_neg (by decide), if_neg hread, if_neg hwrite]

/-- The telemetry path rejects a wrong byte count (R164) and a payload without room for the table
(R165) alike. -/
theorem parseTelemetry_of_bad_length
    (hbad : (byteAt B 2).toNat ≠ B.length - 5 ∨ (byteAt B 2).toNat < tableSpan cfg.fieldTable) :
    parseTelemetry cfg B = .err .lengthMismatch := by
  rw [parseTelemetry]
  split
  · rfl
  · rw [if_pos (by omega)]

/-- The telemetry path on a true byte count that covers the table (R166). -/
theorem parseTelemetry_of_good_length (hcount : (byteAt B 2).toNat = B.length - 5)
    (hspan : tableSpan cfg.fieldTable ≤ (byteAt B 2).toNat) :
    parseTelemetry cfg B = .ok (.telemetry (extractRecord cfg B)) := by
  rw [parseTelemetry, if_neg (by omega), if_neg (by omega)]

/-- The acknowledgement path on a frame below its length (R170). -/
theorem parseAck_of_short (hlen : B.length < 8) : parseAck B = .err .truncated :=
  if_pos hlen

/-- The acknowledgement path on a frame above its length (R170). -/
theorem parseAck_of_long (hlen : 8 < B.length) : parseAck B = .err .lengthMismatch := by
  rw [parseAck, show Config.writeRspLen = 8 from rfl, if_neg (by omega), if_pos hlen]

/-- A byte of the frame, as the claims read it. -/
theorem byteAt_eq_of_getElem? {i : Nat} {b : Byte} (h : B[i]? = some b) : byteAt B i = b := by
  rw [byteAt, List.getD_eq_getElem?_getD, h, Option.getD_some]

end Sys2Proof.Proofs.ParseSteps
end

section
/-! The Checksum unit's operations (R120 to R129): each puts a value on the result port, and the
laws between them are those of the register. -/

namespace Sys2Proof.Proofs.ChecksumOps

open Sys2Proof Sys2Proof.Machine Sys2Proof.Safety Sys2Proof.Proofs.CrcRegister
  Sys2Proof.Proofs.CrcVerify Sys2Proof.Proofs.DecParse Sys2Proof.Proofs.ParseSteps

theorem exec_crcCompute (X : Bytes) (s : State) :
    exec (.crcCompute X) s = .next (s.setResult (.uint16 (crcOf X))) := rfl

theorem exec_crcAppend (X : Bytes) (s : State) :
    exec (.crcAppend X) s = .next (s.setResult (.bytes (crcAppended X))) := rfl

/-- Settles O8: the result port holds the register, and the register after one more byte is eight
shift steps of the register with that byte xored in. -/
theorem crcComputeIsTheRegister : Obligations.CrcComputeIsTheRegister := by
  refine ⟨fun X s => ⟨_, exec_crcCompute X s, onlyResult_setResult s _, rfl⟩,
    fun s => ⟨_, exec_crcCompute [] s, rfl⟩, fun X b s u c hexec hresult => ?_⟩
  obtain rfl := ret_next hexec
  obtain rfl : crcOf X = c := OpResult.uint16.inj hresult
  refine ⟨_, exec_crcCompute (X ++ [b]) s, ?_⟩
  rw [State.setResult_result, crcOf_snoc]
  rfl

/-- Settles O9: the two forms agree on every byte, so on every sequence. -/
theorem crcTableFormAgrees : Obligations.CrcTableFormAgrees := by
  intro X s t hexec
  rw [ret_next hexec, State.setResult_result, crcOfByTable_eq]

/-- Settles O11: fewer than two bytes hold no checksum field. -/
theorem crcVerifyOfTooFewBytes : Obligations.CrcVerifyOfTooFewBytes := by
  intro B s hshort
  have hfalse : crcVerifies B = false := if_pos hshort
  exact ⟨_, exec_crcVerify B s, onlyResult_setResult s _, by rw [State.setResult_result, hfalse]⟩

/-- Settles O12: the appended bytes are the two bytes of the checksum, which is what CRC.VERIFY
compares them with. -/
theorem crcAppendVerifies : Obligations.CrcAppendVerifies := by
  intro X s
  have hverify : crcVerifies (X ++ [loByte (crcOf X), hiByte (crcOf X)]) = true :=
    crcVerifies_crcAppended X
  refine ⟨_, _, loByte (crcOf X), hiByte (crcOf X), exec_crcAppend X s, onlyResult_setResult s _,
    rfl, loByte_toNat _, hiByte_toNat _, exec_crcVerify _ _, ?_⟩
  rw [State.setResult_result, hverify]

/-- Settles O13: verifying is comparing the register over the whole sequence with zero, and an
appended checksum verifies. -/
theorem crcResidueIsZero : Obligations.CrcResidueIsZero := by
  refine ⟨fun X F s t hexec hresult => ?_, fun B s t u hlen hverify hcompute => ?_⟩
  · obtain rfl := ret_next hexec
    obtain rfl : crcAppended X = F := OpResult.bytes.inj hresult
    have hzero : crcOf (crcAppended X) = 0 :=
      (crcVerifies_iff_crcOf_eq_zero (by simp)).mp (crcVerifies_crcAppended X)
    exact ⟨_, exec_crcCompute _ _, by rw [State.setResult_result, hzero]⟩
  · rw [ret_next hverify, ret_next hcompute, State.setResult_result, State.setResult_result,
      OpResult.bool.injEq, OpResult.uint16.injEq]
    exact crcVerifies_iff_crcOf_eq_zero hlen

/-- A byte with one bit flipped is another byte. -/
theorem xor_bit_ne_self (b : Byte) {j : Nat} (hj : j < 8) : b ≠ b ^^^ BitVec.ofNat 8 (2 ^ j) := by
  intro heq
  have hbit : b.getLsbD j = (b ^^^ BitVec.ofNat 8 (2 ^ j)).getLsbD j := congrArg (·.getLsbD j) heq
  rw [BitVec.getLsbD_xor, BitVec.getLsbD_ofNat, Nat.testBit_two_pow_self] at hbit
  simp [hj] at hbit

/-- A frame with one bit flipped has the other bytes as they were, on both sides of the changed
one. -/
theorem flipBit_split {B : Bytes} {i j : Nat} (hi : i < B.length) (hj : j < 8) :
    ∃ X Y a b, a ≠ b ∧ B = X ++ a :: Y ∧ flipBit B i j = X ++ b :: Y := by
  refine ⟨B.take i, B.drop (i + 1), B[i], B[i] ^^^ BitVec.ofNat 8 (2 ^ j), xor_bit_ne_self _ hj,
    by simp, ?_⟩
  rw [flipBit, byteAt, List.getD_eq_getElem _ _ hi, List.set_eq_take_append_cons_drop, if_pos hi]

theorem flipBit_length (B : Bytes) (i j : Nat) : (flipBit B i j).length = B.length :=
  List.length_set

/-- A flipped bit changes the register over the whole frame, which was zero (R127, R129). -/
theorem crcVerifies_flipBit {B : Bytes} {i j : Nat} (hverify : crcVerifies B = true)
    (hi : i < B.length) (hj : j < 8) : crcVerifies (flipBit B i j) = false := by
  have hlen := two_le_length_of_crcVerifies hverify
  have hzero : crcOf B = 0 := (crcVerifies_iff_crcOf_eq_zero hlen).mp hverify
  obtain ⟨X, Y, a, b, hne, hB, hflip⟩ := flipBit_split hi hj
  have hchanged : crcOf B ≠ crcOf (flipBit B i j) := by
    rw [hflip, hB]
    exact crcOf_ne_of_byte_ne X Y hne
  by_contra hstill
  have hzero' : crcOf (flipBit B i j) = 0 :=
    (crcVerifies_iff_crcOf_eq_zero (by rwa [flipBit_length])).mp (by simpa using hstill)
  exact hchanged (hzero.trans hzero'.symm)

/-- Settles O14: the flipped frame does not verify, and DEC.PARSE checks that before it looks at any
field (R162). -/
theorem singleBitFlipDetected : Obligations.SingleBitFlipDetected := by
  intro B i j s t hexec hresult hi hj
  rw [ret_next hexec] at hresult
  have hfalse := crcVerifies_flipBit (OpResult.bool.inj hresult) hi hj
  refine ⟨⟨_, exec_crcVerify _ s, by rw [State.setResult_result, hfalse]⟩, fun hlen => ?_⟩
  have hparse : parse s.cfg (flipBit B i j) = .err .checksumMismatch :=
    parse_of_not_crcVerifies (by rwa [flipBit_length]) hfalse
  exact ⟨_, exec_decParse_of_parse_err hparse, rfl⟩

end Sys2Proof.Proofs.ChecksumOps
end

section
/-! Invariants of the step: what one operation keeps, a step keeps, since taking the operation off
the list of issued ones writes no register (R60, R65). -/

namespace Sys2Proof.Proofs.StepInvariants

open Sys2Proof Sys2Proof.Machine Sys2Proof.Safety Sys2Proof.Proofs.CrcRegister

/-- What relates a state to itself, and to the next state of every operation accepted in it,
relates it to the next state of every step. -/
theorem step_induction {R : State → State → Prop} (hidle : ∀ s, R s s)
    (hexec : ∀ i s iss rest t, exec i (s.accept iss rest) = .next t → R s t)
    {s t : State} (hstep : step s = .next t) : R s t := by
  rcases step_next_cases hstep with ⟨-, rfl⟩ | ⟨iss, rest, i, -, -, -, hnext⟩
  · exact hidle _
  · exact hexec i s iss rest t hnext

/-! ## The timer invariant -/

/-- Arming for an interval of at least 1 makes the invariant hold, whatever held before (R201). -/
theorem timerOk_arm (s : State) {n : Nat} (f : OnFire) (hn : 1 ≤ n) : TimerOk (s.arm n f) := by
  simp [TimerOk, hn]

/-- A fire re-arms for a full interval, which is at least 1 already (R206). -/
theorem timerOk_rearm {s : State} (hactive : s.psActive = true) (hinterval : 1 ≤ s.psInterval) :
    TimerOk s.rearm := by
  simp [TimerOk, hactive, hinterval]

/-- Cancelling leaves no timer (R208). -/
theorem timerOk_cancel {s : State} (hinterval : 1 ≤ s.psInterval) : TimerOk s.cancel := by
  simp [TimerOk, hinterval]

theorem countDown_psCount_le (s : State) : s.countDown.psCount ≤ s.psCount := by
  rw [State.countDown_psCount]
  split <;> omega

/-- Counting down leaves a count that was in bounds in bounds (R204). -/
theorem timerOk_countDown {s : State} (hok : TimerOk s) : TimerOk s.countDown := by
  obtain ⟨hactive, hzero, hbound, hinterval⟩ := hok
  have hle := countDown_psCount_le s
  exact ⟨hactive, fun hne => Nat.le_zero.mp (hzero hne ▸ hle), hle.trans hbound, hinterval⟩

/-- Under the invariant an enabled fire has the active flag, so that it re-arms (R24, R205). -/
theorem psActive_of_fireEnabled {s : State} (hok : TimerOk s) (henabled : fireEnabled s = true) :
    s.psActive = true := by
  obtain ⟨hactive, -⟩ := hok
  obtain ⟨harmed, -⟩ := PsFireEnabled.fireEnabled_eq_true_iff.mp henabled
  exact hactive.mpr harmed

theorem timerOk_of_exec {i : Instr} {s t : State} (hok : TimerOk s) (hexec : exec i s = .next t) :
    TimerOk t := by
  have ⟨_, _, _, hinterval⟩ := hok
  rcases exec_next_cases hexec with ⟨r, rfl⟩ | ⟨frame, r, rfl, -⟩ | ⟨n, f, -, hn, -, rfl⟩ |
    ⟨-, -, hactive, rfl⟩ | ⟨-, henabled, hinactive, -⟩ | ⟨-, rfl⟩ | ⟨-, rfl⟩ | ⟨-, -, rfl⟩ |
    ⟨-, -, rfl⟩ | ⟨buf, -, rfl⟩ | ⟨-, rfl⟩
  · exact hok
  · exact hok
  · exact timerOk_arm s f (by omega)
  · rw [fireAction_eq]
    exact timerOk_rearm hactive hinterval
  · exact absurd (psActive_of_fireEnabled hok henabled) (by simp [hinactive])
  · exact timerOk_cancel hinterval
  · exact timerOk_countDown hok
  · exact hok
  · exact timerOk_arm s .ReadCycle s.cfg.pollInterval_pos
  · rw [deliver_eq]
    exact hok
  · exact timerOk_cancel hinterval

/-- Settles O39: every operation keeps the invariant, from every state that has it. -/
theorem timerInvariantKept : Obligations.TimerInvariantKept := by
  intro s t hok hstep
  exact step_induction (R := fun s t => TimerOk s → TimerOk t) (fun _ h => h)
    (fun _ s iss rest _ hexec h => timerOk_of_exec (s := s.accept iss rest) h hexec) hstep hok

/-! ## The output trace -/

/-- A request the block builds is one it may send (R144, R145). -/
theorem requestOk_requestFrame {op : Byte} (hop : op = 3 ∨ op = 6) (a : Byte) (r v : Word) :
    RequestOk (requestFrame op a r v) :=
  ⟨requestFrame_length op a r v, hop, crcVerifies_crcAppended _⟩

/-- Outputs of which every frame is a request the block may send. -/
def SendsRequests (out : List Output) : Prop :=
  ∀ frame, Output.txWrite frame ∈ out → RequestOk frame

theorem requestOk_pollRequest (cfg : Config) : RequestOk (pollRequest cfg) :=
  requestOk_requestFrame (.inl rfl) _ _ _

theorem sendsRequests_fireOutputs (cfg : Config) (f : OnFire) (a : TxAnswer) :
    SendsRequests (fireOutputs cfg f a) := by
  have hpoll := requestOk_pollRequest cfg
  cases f <;> cases a <;> simp [SendsRequests, fireOutputs, hpoll]

theorem sendsRequests_deliverOutputs (slot : SlotData) (r : Result Decoded ProtocolError) :
    SendsRequests (deliverOutputs slot r) := by
  obtain ⟨-, -, hnone⟩ := deliverOutputs_quiet slot r
  exact fun frame hmem => absurd hmem (hnone frame)

/-- `t` comes after `s` with outputs appended, of which every frame is a request. -/
def Extends (s t : State) : Prop := ∃ out, t.trace = s.trace ++ out ∧ SendsRequests out

theorem Extends.of_trace_eq {s t : State} (h : t.trace = s.trace) : Extends s t :=
  ⟨[], by rw [h, List.append_nil], by simp [SendsRequests]⟩

/-- Every operation only appends outputs (R33), and sends requests only (R145). -/
theorem extends_of_exec {i : Instr} {s t : State} (hexec : exec i s = .next t) : Extends s t := by
  rcases exec_next_cases hexec with ⟨r, rfl⟩ | ⟨frame, r, rfl, hsend⟩ | ⟨n, f, -, -, -, rfl⟩ |
    ⟨-, -, -, rfl⟩ | ⟨-, -, -, rfl⟩ | ⟨-, rfl⟩ | ⟨-, rfl⟩ | ⟨-, -, rfl⟩ | ⟨-, -, rfl⟩ |
    ⟨buf, -, rfl⟩ | ⟨-, rfl⟩
  · exact .of_trace_eq rfl
  · have hok : RequestOk frame := by
      rcases hsend with ⟨-, rfl⟩ | ⟨v, -, -, -, rfl⟩
      · exact requestOk_pollRequest s.cfg
      · exact requestOk_requestFrame (.inr rfl) _ _ _
    exact ⟨[.txWrite frame], rfl, by simpa [SendsRequests] using hok⟩
  · exact .of_trace_eq rfl
  · rw [fireAction_eq]
    exact ⟨_, rfl, sendsRequests_fireOutputs _ _ _⟩
  · rw [fireAction_eq]
    exact ⟨_, rfl, sendsRequests_fireOutputs _ _ _⟩
  · exact .of_trace_eq rfl
  · exact .of_trace_eq rfl
  · exact ⟨[.sinkConnected], rfl, by simp [SendsRequests]⟩
  · exact ⟨[.sinkConnected], rfl, by simp [SendsRequests]⟩
  · rw [deliver_eq]
    exact ⟨_, rfl, sendsRequests_deliverOutputs _ _⟩
  · exact .of_trace_eq rfl

theorem extends_of_step {s t : State} (hstep : step s = .next t) : Extends s t :=
  step_induction (fun _ => .of_trace_eq rfl)
    (fun _ s iss rest _ hexec => extends_of_exec (s := s.accept iss rest) hexec) hstep

/-- Settles O54: a frame in the new trace was in the old one or is a request just sent. -/
theorem sentFramesStayValid : Obligations.SentFramesStayValid := by
  intro s t hsent hstep frame hmem
  obtain ⟨out, htrace, hrequests⟩ := extends_of_step hstep
  rw [htrace, List.mem_append] at hmem
  exact hmem.elim (hsent frame) (hrequests frame)

/-- Settles O53: it is half of what every operation does to the trace. -/
theorem traceOnlyGrows : Obligations.TraceOnlyGrows := by
  intro s t hstep
  obtain ⟨out, htrace, -⟩ := extends_of_step hstep
  exact ⟨out, htrace⟩

/-- Settles O40: at reset no timer is armed, and nothing has been sent. -/
theorem invariantsHoldAtReset : Obligations.InvariantsHoldAtReset := by
  refine ⟨⟨?_, fun _ => rfl, Nat.zero_le _, Nat.le_refl 1⟩, fun frame hmem => ?_⟩
  · simp [State.reset, State.created]
  · exact absurd hmem List.not_mem_nil

/-! ## What is fixed at boot -/

/-- The values bound at boot are the same (R29, R30, R71). -/
def SameBoot (s t : State) : Prop :=
  t.cfg = s.cfg ∧ t.slotConnected = s.slotConnected ∧ t.slotData = s.slotData

theorem sameBoot_of_exec {i : Instr} {s t : State} (hexec : exec i s = .next t) : SameBoot s t := by
  rcases exec_next_cases hexec with ⟨r, rfl⟩ | ⟨frame, r, rfl, -⟩ | ⟨n, f, -, -, -, rfl⟩ |
    ⟨-, -, -, rfl⟩ | ⟨-, -, -, rfl⟩ | ⟨-, rfl⟩ | ⟨-, rfl⟩ | ⟨-, -, rfl⟩ | ⟨-, -, rfl⟩ |
    ⟨buf, -, rfl⟩ | ⟨-, rfl⟩
  all_goals simp [SameBoot, fireAction_eq, deliver_eq]

/-- Settles O52: no operation writes them, and accepting one does not either. -/
theorem bootValuesNeverChange : Obligations.BootValuesNeverChange := by
  intro s t hstep
  exact step_induction (R := SameBoot) (fun _ => ⟨rfl, rfl, rfl⟩)
    (fun _ s iss rest _ hexec => sameBoot_of_exec (s := s.accept iss rest) hexec) hstep

end Sys2Proof.Proofs.StepInvariants
end

section
/-! The encoding of frames and commands (R81 to R84, R95): decoding is the inverse of encoding on
every layout, and a byte sequence that decodes is a layout. -/

namespace Sys2Proof.Proofs.Encoding

open Sys2Proof Sys2Proof.Machine

/-! ## The eight-byte layouts -/

/-- Eight bytes are a frame of the eight-byte layout: no bit of them has no field (R81, R82,
R84). -/
theorem eq_frame8_of_bytes (a op r1 r0 v1 v0 c0 c1 : Byte) :
    [a, op, r1, r0, v1, v0, c0, c1] =
      frame8 op a (wordOf r1 r0) (wordOf v1 v0) (ule16 c0 c1) := by
  simp [frame8_bytes, ule16]

theorem exists_frame8_of_length {B : Bytes} (hlen : B.length = 8) :
    ∃ op a r v c, B = frame8 op a r v c := by
  match B, hlen with
  | [a, op, r1, r0, v1, v0, c0, c1], _ => exact ⟨_, _, _, _, _, eq_frame8_of_bytes ..⟩

@[simp] theorem byteAt_one_frame8 (op a : Byte) (r v c : Word) :
    byteAt (frame8 op a r v c) 1 = op := rfl

/-- The checksum field of a frame, low byte first (R87). -/
theorem storedCrc_append_le16 (X : Bytes) (c : Word) : storedCrc (X ++ le16 c) = c := by
  simp [storedCrc, byteAt, ule16, le16]

/-- A transmitted frame is told by its operation code (R81, R82). -/
theorem decodeTx_frame8 (op a : Byte) (r v c : Word) :
    decodeTx (frame8 op a r v c) =
      if op = Config.opRead then .ok (.frameReadReq a r v c)
      else if op = Config.opWrite then .ok (.frameWriteReq a r v c)
      else .err .noRequestLayout := by
  simp [decodeTx, frame8_bytes, byteAt, ule16]

/-- A received acknowledgement (R84): its operation code is not the telemetry layout's. -/
theorem decodeRx_frame8 (a : Byte) (r v c : Word) :
    decodeRx (frame8 Config.opWrite a r v c) = .frameWriteRsp a r v c := by
  have hother : Config.opWrite ≠ Config.opRead := by decide
  have hcrc : storedCrc (frame8 Config.opWrite a r v c) = c := storedCrc_append_le16 _ c
  rw [decodeRx, if_neg (by simp [hother]), if_pos ⟨rfl, byteAt_one_frame8 ..⟩, hcrc]
  simp [frame8_bytes, byteAt]

/-! ## The telemetry layout -/

theorem readRspFrame_eq (a : Byte) (payload : Bytes) (c : Word) :
    readRspFrame a payload c =
      a :: Config.opRead :: BitVec.ofNat 8 payload.length :: (payload ++ le16 c) := rfl

@[simp] theorem readRspFrame_length (a : Byte) (payload : Bytes) (c : Word) :
    (readRspFrame a payload c).length = 5 + payload.length := by
  simp [readRspFrame_eq]
  omega

/-- The byte count of a payload that fits it is the payload's length (R83). -/
theorem byteAt_two_readRspFrame (a : Byte) {payload : Bytes} (c : Word)
    (hfits : payload.length ≤ 255) :
    (byteAt (readRspFrame a payload c) 2).toNat = payload.length := by
  simp [readRspFrame_eq, byteAt]
  omega

/-- Received bytes of the telemetry layout are a frame with a payload that fits its byte count
(R83). -/
theorem exists_readRspFrame {B : Bytes} (hmin : 5 ≤ B.length) (hop : byteAt B 1 = Config.opRead)
    (hlen : B.length = 5 + (byteAt B 2).toNat) :
    ∃ a payload c, payload.length ≤ 255 ∧ B = readRspFrame a payload c := by
  match B, hmin, hop, hlen with
  | a :: op :: count :: rest, hmin, hop, hlen =>
    obtain rfl : op = Config.opRead := hop
    obtain ⟨payload, c0, c1, rfl⟩ := exists_body_stored (B := rest) (by simp at hmin; omega)
    have hcount : payload.length = count.toNat := by
      simp [byteAt] at hlen
      omega
    refine ⟨a, payload, ule16 c0 c1, by omega, ?_⟩
    simp [readRspFrame_eq, hcount, le16, ule16]

theorem decodeRx_readRspFrame (a : Byte) {payload : Bytes} (c : Word)
    (hfits : payload.length ≤ 255) :
    decodeRx (readRspFrame a payload c) = .frameReadRsp a payload c := by
  have hlen : (readRspFrame a payload c).length = 5 + payload.length := readRspFrame_length ..
  have hcrc : storedCrc (readRspFrame a payload c) = c := storedCrc_append_le16 _ c
  have hpayload : slice (readRspFrame a payload c) 3 (5 + payload.length - 2) = payload := by
    simp [slice, readRspFrame_eq, show 5 + payload.length - 2 - 3 = payload.length by omega]
  rw [decodeRx, if_pos ⟨by omega, rfl, by rw [hlen, byteAt_two_readRspFrame a c hfits]⟩, hlen,
    hpayload, hcrc]
  rfl

/-! ## The statements -/

/-- Settles O1: a frame row by the lemma of its layout, an operation by its select and ports. -/
theorem decodeEncodeRoundTrip : Obligations.DecodeEncodeRoundTrip := by
  intro i hencodable
  cases i with
  | frameReadReq a r n c => exact decodeTx_frame8 Config.opRead a r n c
  | frameWriteReq a r v c => exact decodeTx_frame8 Config.opWrite a r v c
  | frameReadRsp a payload c =>
    exact congrArg Result.ok (decodeRx_readRspFrame a c (of_decide_eq_true hencodable))
  | frameWriteRsp a r v c => exact congrArg Result.ok (decodeRx_frame8 a r v c)
  | _ => rfl

/-- A transmitted frame that decodes has one of the two request layouts. -/
theorem encode_of_decodeTx {B : Bytes} {i : Instr} (h : decodeTx B = .ok i) :
    encode i = .txFrame B := by
  by_cases hlen : B.length = 8
  case neg => simp [decodeTx, hlen] at h
  obtain ⟨op, a, r, v, c, rfl⟩ := exists_frame8_of_length hlen
  rw [decodeTx_frame8] at h
  split at h
  next hop => obtain rfl := Result.ok.inj h; rw [hop]; rfl
  next =>
    split at h
    next hop => obtain rfl := Result.ok.inj h; rw [hop]; rfl
    next => exact nomatch h

/-- Received bytes have one of the two response layouts, or are parsed as they stand (log 7). -/
theorem encode_decodeRx (B : Bytes) :
    encode (decodeRx B) = .rxFrame B ∨ decodeRx B = .decParse B := by
  by_cases hread : 5 ≤ B.length ∧ byteAt B 1 = Config.opRead ∧ B.length = 5 + (byteAt B 2).toNat
  · obtain ⟨hmin, hop, hlen⟩ := hread
    obtain ⟨a, payload, c, hfits, rfl⟩ := exists_readRspFrame hmin hop hlen
    exact .inl (by rw [decodeRx_readRspFrame a c hfits]; rfl)
  · by_cases hwrite : B.length = 8 ∧ byteAt B 1 = Config.opWrite
    · obtain ⟨hlen, hop⟩ := hwrite
      obtain ⟨op, a, r, v, c, rfl⟩ := exists_frame8_of_length hlen
      obtain rfl : op = Config.opWrite := hop
      exact .inl (by rw [decodeRx_frame8]; rfl)
    · exact .inr (by rw [decodeRx, if_neg hread, if_neg hwrite])

/-- Settles O2: by the lane, the bytes are those of the layout they decode to. -/
theorem decodedFramesEncodeBack : Obligations.DecodedFramesEncodeBack := by
  refine fun B i => ⟨encode_of_decodeTx, fun hdecode => ?_⟩
  obtain rfl : decodeRx B = i := Result.ok.inj hdecode
  exact encode_decodeRx B

/-- A response row is performed as DEC.PARSE of the bytes it stands for (R100, log 7). -/
theorem exec_of_encode_rxFrame {B : Bytes} {i : Instr} (h : encode i = .rxFrame B) (s : State) :
    exec i s = exec (.decParse B) s := by
  cases i with
  | frameReadRsp a payload c => obtain rfl := OpWord.rxFrame.inj h; rfl
  | frameWriteRsp a r v c => obtain rfl := OpWord.rxFrame.inj h; rfl
  | _ => exact nomatch h

/-- Settles O22: whichever of the two a received word decodes to, its meaning is DEC.PARSE's. -/
theorem receivedFramesAreParsed : Obligations.ReceivedFramesAreParsed := by
  intro B i s hdecode
  obtain rfl : decodeRx B = i := Result.ok.inj hdecode
  rcases encode_decodeRx B with hencode | hparse
  · exact exec_of_encode_rxFrame hencode s
  · rw [hparse]

theorem decode_cmd_reserved {sel : BitVec 4} (p : Ports) (h : 14 ≤ sel.toNat) :
    decode (.cmd sel p) = .err (.reservedSelect sel) := by
  obtain rfl | rfl : sel = 0xE ∨ sel = 0xF := by bv_omega
  · rfl
  · rfl

/-- Settles O3: the fourteen selects one by one, and the two reserved ones. -/
theorem selectsOfTheTable : Obligations.SelectsOfTheTable := by
  refine fun sel p => ⟨fun hlt => ?_, decode_cmd_reserved p⟩
  obtain ⟨k, rfl⟩ : ∃ k : Fin 14, sel = BitVec.ofNat 4 k :=
    ⟨⟨sel.toNat, hlt⟩, by simp⟩
  fin_cases k <;> exact ⟨_, rfl, rfl⟩

/-- Settles O4: each word is decoded as it is written out. -/
theorem writtenOutWordsDecode : Obligations.WrittenOutWordsDecode := by
  refine ⟨?_, ?_, ?_, ?_, ?_, ?_⟩ <;> decide

end Sys2Proof.Proofs.Encoding
end

section
/-! The FrameEncoder's operations (R140 to R146) and the request rows (R81, R82): the bytes of a
request in terms of the integer operands, and what two equal requests have in common. -/

namespace Sys2Proof.Proofs.EncoderOps

open Sys2Proof Sys2Proof.Machine Sys2Proof.Safety Sys2Proof.Proofs.CrcRegister
  Sys2Proof.Proofs.CrcVerify Sys2Proof.Proofs.DecParse Sys2Proof.Proofs.ParseSteps
  Sys2Proof.Proofs.StepInvariants

/-! ## Operands as bytes -/

theorem toNat_ofInt_byte {a : Int} (h : 0 ≤ a ∧ a ≤ 255) :
    ((BitVec.ofInt 8 a).toNat : Int) = a := by
  rw [BitVec.toNat_ofInt]
  omega

theorem toNat_ofInt_word {v : Int} (h : 0 ≤ v ∧ v ≤ 65535) :
    ((BitVec.ofInt 16 v).toNat : Int) = v := by
  rw [BitVec.toNat_ofInt]
  omega

theorem hiByte_ofInt {v : Int} (h : 0 ≤ v ∧ v ≤ 65535) :
    hiByte (BitVec.ofInt 16 v) = BitVec.ofInt 8 (v / 256) := by
  apply BitVec.eq_of_toNat_eq
  rw [hiByte_toNat, BitVec.toNat_ofInt, BitVec.toNat_ofInt]
  omega

theorem loByte_ofInt {v : Int} (h : 0 ≤ v ∧ v ≤ 65535) :
    loByte (BitVec.ofInt 16 v) = BitVec.ofInt 8 (v % 256) := by
  apply BitVec.eq_of_toNat_eq
  rw [loByte_toNat, BitVec.toNat_ofInt, BitVec.toNat_ofInt]
  omega

/-- The header of a request, byte by byte, from operands in range (R81, R82). -/
theorem header6_ofInt (op : Byte) (a : Int) {r v : Int} (hr : 0 ≤ r ∧ r ≤ 65535)
    (hv : 0 ≤ v ∧ v ≤ 65535) :
    header6 op (BitVec.ofInt 8 a) (BitVec.ofInt 16 r) (BitVec.ofInt 16 v) =
      [BitVec.ofInt 8 a, op, BitVec.ofInt 8 (r / 256), BitVec.ofInt 8 (r % 256),
        BitVec.ofInt 8 (v / 256), BitVec.ofInt 8 (v % 256)] := by
  simp [header6, be16, hiByte_ofInt hr, loByte_ofInt hr, hiByte_ofInt hv, loByte_ofInt hv]

/-- The two bytes of a checksum field are its number, low byte first (R13, R87). -/
theorem loByte_add_hiByte (c : Word) : (loByte c).toNat + 256 * (hiByte c).toNat = c.toNat := by
  rw [loByte_toNat, hiByte_toNat]
  omega

/-! ## What an encoder answers -/

theorem answerEncoded_of_ok {r : Result Bytes EncodeError} {F : Bytes} (h : r = .ok F) (s : State) :
    answerEncoded r s = .next (s.setResult (.ok (.frame F))) := by
  rw [h]; rfl

theorem answerEncoded_of_err {r : Result Bytes EncodeError} {e : EncodeError} (h : r = .err e)
    (s : State) : answerEncoded r s = .next (s.setResult (.err (.encode e))) := by
  rw [h]; rfl

/-- A frame on the result port is the encoder's. -/
theorem eq_ok_of_answerEncoded {r : Result Bytes EncodeError} {s t : State} {F : Bytes}
    (hnext : answerEncoded r s = .next t) (hresult : t.result = .ok (.frame F)) : r = .ok F := by
  cases r with
  | ok F' =>
    obtain rfl := ret_next hnext
    obtain rfl : F' = F := OkValue.frame.inj (OpResult.ok.inj hresult)
    rfl
  | err e =>
    obtain rfl := ret_next hnext
    exact nomatch hresult

/-- An encoder has one error (R265). -/
theorem eq_invalidArgument_of_answerEncoded {r : Result Bytes EncodeError} {s t : State}
    {e : ErrorKind} (hnext : answerEncoded r s = .next t) (hresult : t.result = .err e) :
    e = .encode .invalidArgument := by
  cases r with
  | ok F => obtain rfl := ret_next hnext; exact nomatch hresult
  | err e' => obtain rfl := ret_next hnext; exact (OpResult.err.inj hresult).symm

/-- Both encoders on operands in range, by the operation code in which they differ (R140, R141,
R145). -/
theorem answerEncoded_inRange (op : Byte) {a r v : Int} (s : State) (ha : 0 ≤ a ∧ a ≤ 255)
    (hr : 0 ≤ r ∧ r ≤ 65535) (hv : 0 ≤ v ∧ v ≤ 65535) {header : Bytes}
    (hheader : header = [BitVec.ofInt 8 a, op, BitVec.ofInt 8 (r / 256), BitVec.ofInt 8 (r % 256),
      BitVec.ofInt 8 (v / 256), BitVec.ofInt 8 (v % 256)]) :
    ∃ (t : State) (c0 c1 : Byte), answerEncoded (encodeRequest op a r v) s = .next t ∧
      OnlyResult s t ∧ t.result = .ok (.frame (header ++ [c0, c1])) ∧
      c0.toNat + 256 * c1.toNat = (crcOf header).toNat := by
  rw [← header6_ofInt op a hr hv] at hheader
  subst hheader
  exact ⟨_, _, _, answerEncoded_of_ok (encodeRequest_inRange ha hr hv) s, onlyResult_setResult s _,
    rfl, loByte_add_hiByte _⟩

/-- Both encoders on operands out of range (R142, R143). -/
theorem answerEncoded_outOfRange (op : Byte) {a r v : Int} (s : State)
    (h : ¬ ((0 ≤ a ∧ a ≤ 255) ∧ (0 ≤ r ∧ r ≤ 65535) ∧ (0 ≤ v ∧ v ≤ 65535))) :
    ∃ t, answerEncoded (encodeRequest op a r v) s = .next t ∧ OnlyResult s t ∧
      t.result = .err (.encode .invalidArgument) :=
  ⟨_, answerEncoded_of_err (encodeRequest_outOfRange h) s, onlyResult_setResult s _, rfl⟩

theorem exec_encRead (a r n : Int) (s : State) :
    exec (.encRead a r n) s = answerEncoded (encodeRequest Config.opRead a r n) s := rfl

theorem exec_encWrite (a r v : Int) (s : State) :
    exec (.encWrite a r v) s = answerEncoded (encodeRequest Config.opWrite a r v) s := rfl

/-- Settles O15: ENC.READ is the encoder with the operation code of a read. -/
theorem encReadResult : Obligations.EncReadResult := by
  intro a r n s
  rw [exec_encRead]
  exact ⟨fun ⟨ha, hr, hn⟩ => answerEncoded_inRange Config.opRead s ha hr hn rfl,
    answerEncoded_outOfRange Config.opRead s⟩

/-- Settles O16: ENC.WRITE is the encoder with the operation code of a write. -/
theorem encWriteResult : Obligations.EncWriteResult := by
  intro a r v s
  rw [exec_encWrite]
  exact ⟨fun ⟨ha, hr, hv⟩ => answerEncoded_inRange Config.opWrite s ha hr hv rfl,
    answerEncoded_outOfRange Config.opWrite s⟩

/-! ## Distinct operands, distinct frames -/

theorem word_ext {v w : Word} (hhi : hiByte v = hiByte w) (hlo : loByte v = loByte w) : v = w := by
  rw [← wordOf_bytes v, hhi, hlo, wordOf_bytes]

/-- The header alone tells the operands of a request apart (R144). -/
theorem requestFrame_injective {op a a' : Byte} {r r' v v' : Word}
    (h : requestFrame op a r v = requestFrame op a' r' v') : a = a' ∧ r = r' ∧ v = v' := by
  simp only [requestFrame_eq_frame8, frame8_bytes, List.cons.injEq] at h
  obtain ⟨ha, -, hr1, hr0, hv1, hv0, -⟩ := h
  exact ⟨ha, word_ext hr1 hr0, word_ext hv1 hv0⟩

/-- An encoder that gives one frame for two operand triples was given one triple: in range, an
integer is the value of its field. -/
theorem operands_eq_of_encodeRequest {op : Byte} {a r v a' r' v' : Int} {F : Bytes}
    (h : encodeRequest op a r v = .ok F) (h' : encodeRequest op a' r' v' = .ok F) :
    a = a' ∧ r = r' ∧ v = v' := by
  obtain ⟨ha, hr, hv, hF⟩ := encodeRequest_ok h
  obtain ⟨ha', hr', hv', hF'⟩ := encodeRequest_ok h'
  obtain ⟨hfa, hfr, hfv⟩ := requestFrame_injective (hF.symm.trans hF')
  exact ⟨by rw [← toNat_ofInt_byte ha, hfa, toNat_ofInt_byte ha'],
    by rw [← toNat_ofInt_word hr, hfr, toNat_ofInt_word hr'],
    by rw [← toNat_ofInt_word hv, hfv, toNat_ofInt_word hv']⟩

theorem requestOk_of_encodeRequest {op : Byte} (hop : op = 3 ∨ op = 6) {a r v : Int} {F : Bytes}
    (h : encodeRequest op a r v = .ok F) : RequestOk F := by
  obtain ⟨-, -, -, rfl⟩ := encodeRequest_ok h
  exact requestOk_requestFrame hop _ _ _

/-- Settles O17: for either operation code, by the two lemmas before. -/
theorem encodedFramesDistinct : Obligations.EncodedFramesDistinct := by
  intro a r v a' r' v' s t t' F hexec hresult hresult'
  rcases hexec with ⟨hnext, hnext'⟩ | ⟨hnext, hnext'⟩
  · have hok := eq_ok_of_answerEncoded hnext hresult
    have hok' := eq_ok_of_answerEncoded hnext' hresult'
    exact ⟨requestOk_of_encodeRequest (.inl rfl) hok, operands_eq_of_encodeRequest hok hok'⟩
  · have hok := eq_ok_of_answerEncoded hnext hresult
    have hok' := eq_ok_of_answerEncoded hnext' hresult'
    exact ⟨requestOk_of_encodeRequest (.inr rfl) hok, operands_eq_of_encodeRequest hok hok'⟩

/-! ## The eight-byte frames, parsed -/

/-- CRC.VERIFY of an eight-byte frame compares its checksum field with its header's checksum. -/
theorem crcVerifies_frame8 (op a : Byte) (r v c : Word) :
    crcVerifies (frame8 op a r v c) = (header6Crc op a r v == c) :=
  crcVerifies_append_le16 _ c

/-- DEC.PARSE of an acknowledgement with the right checksum (R169). -/
theorem parse_frame8_write (cfg : Config) {a : Byte} {r v c : Word}
    (hcrc : c = header6Crc Config.opWrite a r v) :
    parse cfg (frame8 Config.opWrite a r v c) = .ok (.writeAck ⟨r, v⟩) := by
  have hverify : crcVerifies (frame8 Config.opWrite a r v c) = true := by
    rw [crcVerifies_frame8, hcrc, beq_self_eq_true]
  rw [parse_eq_parseAck (by simp [frame8_bytes]) hverify rfl, frame8_bytes, parseAck_eight,
    wordOf_bytes, wordOf_bytes]

/-- DEC.PARSE of an eight-byte frame with a wrong checksum (R162). -/
theorem parse_frame8_of_crc_ne (cfg : Config) {op a : Byte} {r v c : Word}
    (hcrc : c ≠ header6Crc op a r v) :
    parse cfg (frame8 op a r v c) = .err .checksumMismatch := by
  refine parse_of_not_crcVerifies (by simp [frame8_bytes]) ?_
  rw [crcVerifies_frame8]
  exact beq_false_of_ne hcrc.symm

/-- Settles O18: the frame of ENC.WRITE is an acknowledgement of its own operands. -/
theorem writeEchoParses : Obligations.WriteEchoParses := by
  intro a r v s t F hnext hresult
  obtain ⟨-, hr, hv, rfl⟩ := encodeRequest_ok (eq_ok_of_answerEncoded hnext hresult)
  rw [requestFrame_eq_frame8]
  exact ⟨_, _, exec_decParse_of_parse_ok (parse_frame8_write t.cfg rfl), rfl, toNat_ofInt_word hr,
    toNat_ofInt_word hv⟩

/-! ## The rows of the eight-byte layouts -/

/-- Settles O19: the encoder on the row's fields, which are in range; a well-formed row holds the
checksum the encoder computes. -/
theorem requestRowsAreBuilt : Obligations.RequestRowsAreBuilt := by
  intro a r v c s
  refine ⟨⟨_, _, answerEncoded_of_ok (encodeRequest_fields Config.opRead a r v) s,
    onlyResult_setResult s _, rfl, rfl, fun hwf => ?_⟩,
    ⟨_, _, answerEncoded_of_ok (encodeRequest_fields Config.opWrite a r v) s,
    onlyResult_setResult s _, rfl, rfl, fun hwf => ?_⟩⟩
  · rw [beq_iff_eq.mp hwf]; rfl
  · rw [beq_iff_eq.mp hwf]; rfl

theorem exec_frameWriteRsp (a : Byte) (r v c : Word) (s : State) :
    exec (.frameWriteRsp a r v c) s = exec (.decParse (frame8 Config.opWrite a r v c)) s := rfl

/-- Settles O21: by the comparison of the frame's checksum field with its header's checksum. -/
theorem writeRspResult : Obligations.WriteRspResult := by
  intro a r v c s
  rw [exec_frameWriteRsp]
  by_cases hcrc : c = crcOf (header6 0x06 a r v)
  · exact ⟨_, exec_decParse_of_parse_ok (parse_frame8_write s.cfg hcrc), onlyResult_setResult s _,
      fun hne => absurd hcrc hne, fun _ => rfl⟩
  · exact ⟨_, exec_decParse_of_parse_err (parse_frame8_of_crc_ne s.cfg hcrc),
      onlyResult_setResult s _, fun _ => rfl, fun heq => absurd heq hcrc⟩

end Sys2Proof.Proofs.EncoderOps
end

section
/-! DEC.PARSE over whole frames (R160 to R175): the record of a telemetry frame read off its
payload, and the order in which errors are reported (R267). -/

namespace Sys2Proof.Proofs.DecoderOps

open Sys2Proof Sys2Proof.Machine Sys2Proof.Safety Sys2Proof.Proofs.CrcRegister
  Sys2Proof.Proofs.CrcVerify Sys2Proof.Proofs.DecParse Sys2Proof.Proofs.Encoding
  Sys2Proof.Proofs.ParseSteps Sys2Proof.Proofs.EncoderOps

/-! ## Fields -/

/-- A field's bytes in the frame are its bytes in the payload, which starts at byte 3 (R83,
R166). -/
theorem memRead_payload (B : Bytes) (offset width : Nat) :
    memRead B (3 + offset) width = ube (((B.drop 3).drop offset).take width) := by
  rw [memRead, slice, List.drop_drop, Nat.add_sub_cancel_left]

/-- The sign bit's weight, doubled, is the range of a field that has a bit (R167). -/
theorem two_mul_half {width : Nat} (h : 1 ≤ width) : 2 ^ (8 * width) = 2 * 2 ^ (8 * width - 1) := by
  rw [← Nat.pow_succ', Nat.succ_eq_add_one, Nat.sub_add_cancel (by omega)]

/-- Below the sign bit a number stands for itself (R167). -/
theorem signedDecode_of_lt_half (repr : SignRepr) {width raw : Nat}
    (h : raw < 2 ^ (8 * width - 1)) : signedDecode repr width raw = raw :=
  if_pos h

/-- From the sign bit on, two's complement takes the field's range off (R167). -/
theorem signedDecode_twos_complement {width raw : Nat} (hwidth : 1 ≤ width)
    (h : 2 ^ (8 * width - 1) ≤ raw) :
    signedDecode .twos_complement width raw = (raw : Int) - 2 * (2 ^ (8 * width - 1) : Nat) := by
  simp [signedDecode, two_mul_half hwidth, Nat.not_lt.mpr h]

/-- From the sign bit on, sign and magnitude negates what the sign bit leaves (R167). -/
theorem signedDecode_sign_magnitude {width raw : Nat} (h : 2 ^ (8 * width - 1) ≤ raw) :
    signedDecode .sign_magnitude width raw = ((2 ^ (8 * width - 1) : Nat) : Int) - raw := by
  simp [signedDecode, Nat.not_lt.mpr h]

/-- The decoder's field value is the value the claims read off the payload (R166 to R168). -/
theorem fieldValue_eq_fieldOfPayload (repr : SignRepr) (e : FieldEntry) (B : Bytes) :
    fieldValue repr e B = fieldOfPayload repr e (B.drop 3) := by
  simp only [fieldValue, fieldOfPayload, fieldInt, memRead_payload]
  congr 2
  cases e.signed
  case false => simp
  by_cases hneg : 2 ^ (8 * e.width - 1) ≤ ube (((B.drop 3).drop e.offset).take e.width)
  · rw [if_pos rfl, if_pos ⟨rfl, hneg⟩]
    cases repr
    · exact signedDecode_twos_complement e.width_pos hneg
    · exact signedDecode_sign_magnitude hneg
  · rw [if_pos rfl, signedDecode_of_lt_half repr (Nat.not_le.mp hneg), if_neg fun h => hneg h.2]

/-- A field within the payload does not see what follows it. -/
theorem fieldOfPayload_append (repr : SignRepr) (e : FieldEntry) {payload : Bytes} (Y : Bytes)
    (h : e.offset + e.width ≤ payload.length) :
    fieldOfPayload repr e (payload ++ Y) = fieldOfPayload repr e payload := by
  have hbytes : ((payload ++ Y).drop e.offset).take e.width =
      (payload.drop e.offset).take e.width := by
    rw [List.drop_append_of_le_length (by omega),
      List.take_append_of_le_length (by rw [List.length_drop]; omega)]
  simp only [fieldOfPayload, hbytes]

/-- Under each name the record holds the field of that name (R166). -/
theorem extractRecord_get (cfg : Config) (B : Bytes) (name : FieldName) :
    (extractRecord cfg B).get name =
      fieldOfPayload cfg.signRepr (cfg.fieldTable.get name) (B.drop 3) := by
  rw [extractRecord, PerField.get_map, fieldValue_eq_fieldOfPayload]

/-! ## Telemetry frames -/

theorem crcVerifies_readRspFrame (a : Byte) (payload : Bytes) (c : Word) :
    crcVerifies (readRspFrame a payload c) = (crcOf (readRspBody a payload) == c) :=
  crcVerifies_append_le16 _ c

/-- DEC.PARSE of a telemetry frame with a wrong checksum (R162). -/
theorem parse_readRspFrame_of_crc_ne (cfg : Config) {a : Byte} {payload : Bytes} {c : Word}
    (hcrc : c ≠ crcOf (readRspBody a payload)) :
    parse cfg (readRspFrame a payload c) = .err .checksumMismatch := by
  refine parse_of_not_crcVerifies (by simp) ?_
  rw [crcVerifies_readRspFrame]
  exact beq_false_of_ne hcrc.symm

/-- DEC.PARSE of a telemetry frame with the right checksum takes the telemetry path. -/
theorem parse_readRspFrame (cfg : Config) {a : Byte} {payload : Bytes} {c : Word}
    (hcrc : c = crcOf (readRspBody a payload)) :
    parse cfg (readRspFrame a payload c) = parseTelemetry cfg (readRspFrame a payload c) := by
  refine parse_eq_parseTelemetry (by simp) ?_ rfl
  rw [crcVerifies_readRspFrame, hcrc, beq_self_eq_true]

/-- The record of a telemetry frame holds the fields of its payload: no field reaches into the
checksum (R93, R165). -/
theorem extractRecord_readRspFrame_get (cfg : Config) (a : Byte) {payload : Bytes} (c : Word)
    (hspan : tableSpan cfg.fieldTable ≤ payload.length) (name : FieldName) :
    (extractRecord cfg (readRspFrame a payload c)).get name =
      fieldOfPayload cfg.signRepr (cfg.fieldTable.get name) payload := by
  rw [extractRecord_get]
  exact fieldOfPayload_append _ _ _ ((field_within_span cfg.fieldTable name).trans hspan)

/-- DEC.PARSE of a telemetry frame whose payload holds the table (R164 to R166). -/
theorem parse_readRspFrame_of_span_le (cfg : Config) {a : Byte} {payload : Bytes} {c : Word}
    (hfits : payload.length ≤ 255) (hcrc : c = crcOf (readRspBody a payload))
    (hspan : tableSpan cfg.fieldTable ≤ payload.length) :
    parse cfg (readRspFrame a payload c) =
      .ok (.telemetry (extractRecord cfg (readRspFrame a payload c))) := by
  have hcount := byteAt_two_readRspFrame a c hfits
  rw [parse_readRspFrame cfg hcrc]
  exact parseTelemetry_of_good_length (by rw [hcount, readRspFrame_length]; omega)
    (by rwa [hcount])

/-- DEC.PARSE of a telemetry frame whose payload is too short for the table (R165). -/
theorem parse_readRspFrame_of_lt_span (cfg : Config) {a : Byte} {payload : Bytes} {c : Word}
    (hfits : payload.length ≤ 255) (hcrc : c = crcOf (readRspBody a payload))
    (hspan : payload.length < tableSpan cfg.fieldTable) :
    parse cfg (readRspFrame a payload c) = .err .lengthMismatch := by
  have hcount := byteAt_two_readRspFrame a c hfits
  rw [parse_readRspFrame cfg hcrc]
  exact parseTelemetry_of_bad_length (.inr (by rwa [hcount]))

theorem exec_frameReadRsp (a : Byte) (payload : Bytes) (c : Word) (s : State) :
    exec (.frameReadRsp a payload c) s = exec (.decParse (readRspFrame a payload c)) s := rfl

/-- Settles O20: by the frame's checksum, then by whether the table fits the payload. -/
theorem readRspResult : Obligations.ReadRspResult := by
  intro a payload c s hfits
  rw [exec_frameReadRsp]
  by_cases hcrc : c = crcOf ([a, 0x03, BitVec.ofNat 8 payload.length] ++ payload)
  case neg =>
    exact ⟨_, exec_decParse_of_parse_err (parse_readRspFrame_of_crc_ne s.cfg hcrc),
      onlyResult_setResult s _, fun _ => rfl, fun heq => absurd heq hcrc⟩
  by_cases hspan : tableSpan s.cfg.fieldTable ≤ payload.length
  · exact ⟨_, exec_decParse_of_parse_ok (parse_readRspFrame_of_span_le s.cfg hfits hcrc hspan),
      onlyResult_setResult s _, fun hne => absurd hcrc hne, fun _ =>
        ⟨fun hlt => absurd hspan (Nat.not_le.mpr hlt),
          fun _ => ⟨_, rfl, extractRecord_readRspFrame_get s.cfg a c hspan⟩⟩⟩
  · exact ⟨_, exec_decParse_of_parse_err
        (parse_readRspFrame_of_lt_span s.cfg hfits hcrc (Nat.not_le.mp hspan)),
      onlyResult_setResult s _, fun hne => absurd hcrc hne, fun _ =>
        ⟨fun _ => rfl, fun hle => absurd hle hspan⟩⟩

/-- Settles O24: the frame passes every check of the telemetry path. -/
theorem telemetryFields : Obligations.TelemetryFields := by
  intro B bc s hlen hcrc hop hbc hcount hspan
  have hbyte := byteAt_eq_of_getElem? hbc
  have hparse : parse s.cfg B = .ok (.telemetry (extractRecord s.cfg B)) := by
    rw [parse_eq_parseTelemetry hlen hcrc (byteAt_eq_of_getElem? hop)]
    exact parseTelemetry_of_good_length (by rw [hbyte, hcount]) (by rwa [hbyte])
  exact ⟨_, _, exec_decParse_of_parse_ok hparse, onlyResult_setResult s _, rfl,
    extractRecord_get s.cfg B⟩

/-- An unscaled field that encodes 100 has the value 100: 100 is below the sign bit of every width
(R167). -/
theorem fieldOfPayload_eq_hundred (repr : SignRepr) {e : FieldEntry} {payload : Bytes}
    (hscale : e.scale = 1) (hraw : ube ((payload.drop e.offset).take e.width) = 100) :
    fieldOfPayload repr e payload = 100 := by
  have hhalf : 2 ^ 7 ≤ 2 ^ (8 * e.width - 1) :=
    Nat.pow_le_pow_right (by decide) (by have := e.width_pos; omega)
  have hpositive : ¬ (e.signed = true ∧ 2 ^ (8 * e.width - 1) ≤ 100) := fun h => by omega
  simp only [fieldOfPayload, hraw, hscale, if_neg hpositive]
  norm_num

/-- Settles O27: the frame is a telemetry frame with the right checksum, whose payload holds the
table. -/
theorem batteryPercentageScenario : Obligations.BatteryPercentageScenario := by
  intro payload s hlen hspan hscale hraw
  have hframe : crcAppended ([0xFF, 0x03, 34] ++ payload) =
      readRspFrame 0xFF payload (crcOf (readRspBody 0xFF payload)) := by
    rw [readRspFrame, readRspBody, hlen]
    rfl
  rw [hframe]
  have hspan' : tableSpan s.cfg.fieldTable ≤ payload.length := by rwa [hlen]
  refine ⟨_, _, exec_decParse_of_parse_ok
    (parse_readRspFrame_of_span_le s.cfg (by omega) rfl hspan'), rfl, ?_⟩
  exact (extractRecord_readRspFrame_get s.cfg 0xFF _ hspan' .battery_percentage).trans
    (fieldOfPayload_eq_hundred _ hscale hraw)

/-! ## The order of errors -/

/-- DEC.PARSE writes the result port only, and an error of the decoder is what it puts there. -/
theorem exec_decParse_errors (B : Bytes) (s : State) :
    ∃ t, exec (.decParse B) s = .next t ∧ OnlyResult s t ∧
      ∀ e, parse s.cfg B = .err e → t.result = .err (.protocol e) := by
  cases hparse : parse s.cfg B with
  | ok d =>
    exact ⟨_, exec_decParse_of_parse_ok hparse, onlyResult_setResult s _, fun e he => nomatch he⟩
  | err e =>
    refine ⟨_, exec_decParse_of_parse_err hparse, onlyResult_setResult s _, fun e' he => ?_⟩
    rw [State.setResult_result, Result.err.inj he]

/-- DSP.SETLOAD of a value out of range is ENC.WRITE's error, before anything is sent (R235). -/
theorem exec_dspSetload_of_outOfRange {v : Int} (s : State) (h : ¬ (0 ≤ v ∧ v ≤ 65535)) :
    exec (.dspSetload v) s = .next (s.setResult (.err (.encode .invalidArgument))) := by
  have hencode : encodeRequest Config.opWrite s.cfg.deviceAddress.toNat s.cfg.loadRegister.toNat v =
      .err .invalidArgument := encodeRequest_outOfRange fun hin => h hin.2.2
  simp only [exec, execDspSetload, hencode]
  rfl

/-- Settles O23: each clause is the step of DEC.PARSE that decides it. -/
theorem errorPriority : Obligations.ErrorPriority := by
  refine ⟨fun B s => ?_, ?_, fun v s h => ⟨_, exec_dspSetload_of_outOfRange s h, rfl⟩⟩
  · obtain ⟨t, hexec, honly, herr⟩ := exec_decParse_errors B s
    refine ⟨t, hexec, honly, fun hlen => herr _ (parse_of_short hlen),
      fun hlen hcrc => herr _ (parse_of_not_crcVerifies hlen hcrc), ?unknown, ?telemetry,
      ?ackShort, ?ackLong⟩
    case unknown =>
      intro op hlen hcrc hop hread hwrite
      obtain rfl := byteAt_eq_of_getElem? hop
      exact herr _ (parse_of_unknown_operation hlen hcrc hread hwrite)
    case telemetry =>
      intro bc hlen hcrc hop hbc hbad
      obtain rfl := byteAt_eq_of_getElem? hbc
      exact herr _ ((parse_eq_parseTelemetry hlen hcrc (byteAt_eq_of_getElem? hop)).trans
        (parseTelemetry_of_bad_length hbad))
    case ackShort =>
      intro hlen hcrc hop hshort
      exact herr _ ((parse_eq_parseAck hlen hcrc (byteAt_eq_of_getElem? hop)).trans
        (parseAck_of_short hshort))
    case ackLong =>
      intro hcrc hop hlong
      exact herr _ ((parse_eq_parseAck (by omega) hcrc (byteAt_eq_of_getElem? hop)).trans
        (parseAck_of_long hlong))
  · rintro a r v s t e (hnext | hnext) hresult
    · exact eq_invalidArgument_of_answerEncoded hnext hresult
    · exact eq_invalidArgument_of_answerEncoded hnext hresult

end Sys2Proof.Proofs.DecoderOps
end

section
/-! The step, by what is issued next (R65, R96, R278). -/

namespace Sys2Proof.Proofs.StepCases

open Sys2Proof Sys2Proof.Machine Sys2Proof.Proofs.TableWord Sys2Proof.Proofs.PsFireEnabled
  Sys2Proof.Proofs.Encoding

section
variable {s : State} {iss : Issue} {rest : List Issue}

theorem step_of_idle (hpending : s.pending = []) : step s = .next s := by
  simp [step, fetch, hpending]

theorem step_of_undecodable {e : DecodeError} (hpending : s.pending = iss :: rest)
    (hdecode : decode iss.word = .err e) : step s = .refused (.undecodable e) := by
  simp [step, fetch, hpending, hdecode]

theorem step_of_wrongIssuer {i : Instr} (hpending : s.pending = iss :: rest)
    (hdecode : decode iss.word = .ok i) (hissuer : mayIssue iss.issuer i = false) :
    step s = .refused (.wrongIssuer iss.issuer) := by
  simp [step, fetch, hpending, hdecode, hissuer]

end

/-- Settles O5: an admitted operation is performed in the state that accepting it leaves. -/
theorem stepRunsIssuedInstruction : Obligations.StepRunsIssuedInstruction :=
  ⟨fun _ _ _ _ hpending hdecode hissuer => step_of_pending hpending hdecode hissuer,
    fun _ hpending => step_of_idle hpending⟩

/-- Settles O6: the decoder, the check of the issuer and PS.FIRE itself refuse in turn. -/
theorem impossibleOperationsRefused : Obligations.ImpossibleOperationsRefused := by
  intro s iss rest hpending
  refine ⟨fun sel p hword hsel => ?reserved, fun p hword hissuer => ?issuer,
    fun p hword hissuer hdisabled => ?disabled⟩
  case reserved =>
    exact step_of_undecodable hpending (by rw [hword]; exact decode_cmd_reserved p hsel)
  case issuer =>
    have hdecode : decode iss.word = .ok .psFire := by rw [hword]; rfl
    exact step_of_wrongIssuer hpending hdecode (beq_false_of_ne hissuer)
  case disabled =>
    have hdecode : decode iss.word = .ok .psFire := by rw [hword]; rfl
    rw [step_of_pending hpending hdecode (by rw [hissuer]; rfl)]
    exact exec_psFire_refused_of_not_fireEnabled (fireEnabled_eq_true_iff.not.mpr hdisabled)

end Sys2Proof.Proofs.StepCases
end

section
/-! The frame access functions MemRead and MemWrite within their bounds (R56, R57). -/

namespace Sys2Proof.Proofs.FrameAccess

open Sys2Proof Sys2Proof.Machine

section
variable {F : Bytes} {addr n : Nat}

theorem memWrite_length (v : Nat) (h : addr + n ≤ F.length) :
    (memWrite F addr n v).length = F.length := by
  simp [memWrite]
  omega

/-- The bytes written are the bytes read back (R56, R57). -/
theorem slice_memWrite (v : Nat) (h : addr + n ≤ F.length) :
    slice (memWrite F addr n v) addr (addr + n) = beBytes n v := by
  have htake : (F.take addr).length = addr := by simp; omega
  rw [slice, memWrite, List.append_assoc, List.drop_left' htake, Nat.add_sub_cancel_left,
    List.take_left' (beBytes_length n v)]

theorem memWrite_getElem?_before (v : Nat) {i : Nat} (h : addr + n ≤ F.length) (hi : i < addr) :
    (memWrite F addr n v)[i]? = F[i]? := by
  rw [memWrite, List.append_assoc, List.getElem?_append_left (by simp; omega),
    List.getElem?_take_of_lt hi]

theorem memWrite_getElem?_after (v : Nat) {i : Nat} (h : addr + n ≤ F.length) (hi : addr + n ≤ i) :
    (memWrite F addr n v)[i]? = F[i]? := by
  have hlen : (F.take addr ++ beBytes n v).length = addr + n := by simp; omega
  rw [memWrite, List.getElem?_append_right (by omega), hlen, List.getElem?_drop,
    Nat.add_sub_cancel' hi]

end

/-- Settles O58: the bytes read back have the written value, and the others stand where they
stood. -/
theorem memReadAfterMemWrite : Obligations.MemReadAfterMemWrite := by
  intro F addr n v hrange hv
  refine ⟨?_, memWrite_length v hrange, fun i hi => ?_⟩
  · rw [memRead, slice_memWrite v hrange, ube_beBytes n v hv]
  · exact hi.elim (memWrite_getElem?_before v hrange) (memWrite_getElem?_after v hrange)

theorem beBytes_one (a : Byte) : beBytes 1 a.toNat = [a] := by
  simp [beBytes]

theorem beBytes_two (v : Word) : beBytes 2 v.toNat = be16 v := by
  have hhi : BitVec.ofNat 8 (v.toNat / 256) = hiByte v := by
    apply BitVec.eq_of_toNat_eq
    have := v.isLt
    rw [BitVec.toNat_ofNat, hiByte_toNat]
    omega
  have hlo : BitVec.ofNat 8 v.toNat = loByte v := by
    apply BitVec.eq_of_toNat_eq
    rw [BitVec.toNat_ofNat, loByte_toNat]
  simp [beBytes, be16, hhi, hlo]

/-- Settles O59: the four writes cover the six bytes, each once. -/
theorem headerIsMemWritten : Obligations.HeaderIsMemWritten := by
  intro F op a r v hlen
  match F, hlen with
  | [_, _, _, _, _, _], _ =>
    simp only [memWrite, beBytes_one, beBytes_two]
    rfl

end Sys2Proof.Proofs.FrameAccess
end

section
/-! Loading a raw field table (R93): entry by entry, name by name. -/

namespace Sys2Proof.Proofs.FieldTableLoad

open Sys2Proof Sys2Proof.Machine

/-- A raw entry is loaded as it stands, when it passes R93 (b) and (c). -/
theorem loadEntry_eq_ok_iff {e : RawEntry} {entry : FieldEntry} :
    loadEntry e = .ok entry ↔ (1 ≤ e.width ∧ e.offset + e.width ≤ 255) ∧
      entry.offset = e.offset ∧ entry.width = e.width ∧ entry.scale = e.scale ∧
        entry.signed = e.signed := by
  obtain ⟨offset, width, scale, signed, hwidth, hspan⟩ := entry
  unfold loadEntry
  split
  next hw =>
    split
    next hs => simp [hw, hs, eq_comm]
    next hs => simp [hs]
  next hw => simp [hw]

/-- A name is loaded from its one entry (R93 (a)). -/
theorem loadField_eq_ok_iff {rows : List RawEntry} {name : FieldName} {entry : FieldEntry} :
    loadField rows name = .ok entry ↔
      ∃ e, rows.filter (fun e => e.name == name) = [e] ∧ loadEntry e = .ok entry := by
  unfold loadField
  split
  next e hone => simp [hone]
  next hnot => exact ⟨fun h => (nomatch h), fun ⟨e, hone, _⟩ => absurd hone (hnot e)⟩

theorem bind_eq_ok_iff {ε α β : Type} {x : Except ε α} {f : α → Except ε β} {b : β} :
    (x >>= f) = .ok b ↔ ∃ a, x = .ok a ∧ f a = .ok b := by
  cases x with
  | error e => exact ⟨fun h => (nomatch h), fun ⟨_, h, _⟩ => (nomatch h)⟩
  | ok a => exact ⟨fun h => ⟨a, rfl, h⟩, fun ⟨_, ha, h⟩ => Except.ok.inj ha ▸ h⟩

/-- A raw table is loaded name by name. -/
theorem loadFieldTable_eq_ok_iff {rows : List RawEntry} {table : FieldTable} :
    loadFieldTable rows = .ok table ↔ ∀ name, loadField rows name = .ok (table.get name) := by
  constructor
  · intro h name
    simp only [loadFieldTable, bind_eq_ok_iff] at h
    obtain ⟨_, hbp, _, hbv, _, hbc, _, hct, _, hbt, _, hls, _, hlv, _, hlc, _, hlp, _, hpv,
      _, hpc, _, hpp, _, hmc, _, hmd, _, hca, _, hda, _, hpg, _, hpu, _, hut, _, hgt, _,
      hcs, hpure⟩ := h
    obtain rfl := Except.ok.inj hpure
    cases name
    exacts [hbp, hbv, hbc, hct, hbt, hls, hlv, hlc, hlp, hpv, hpc, hpp, hmc, hmd, hca, hda,
      hpg, hpu, hut, hgt, hcs]
  · intro h
    simp only [loadFieldTable, h]
    rfl

theorem exists_loadFieldTable_iff {rows : List RawEntry} :
    (∃ table, loadFieldTable rows = .ok table) ↔
      ∀ name, ∃ entry, loadField rows name = .ok entry := by
  constructor
  · rintro ⟨table, h⟩ name
    exact ⟨_, loadFieldTable_eq_ok_iff.mp h name⟩
  · intro h
    choose entry hentry using h
    exact ⟨.ofFn entry, loadFieldTable_eq_ok_iff.mpr fun name => by rw [PerField.get_ofFn, hentry]⟩

/-- A name can be loaded exactly when its one entry meets R93. -/
theorem exists_loadField_iff {rows : List RawEntry} {name : FieldName} :
    (∃ entry, loadField rows name = .ok entry) ↔
      ∃ e, rows.filter (fun e => e.name == name) = [e] ∧ 1 ≤ e.width ∧
        e.offset + e.width ≤ 255 := by
  constructor
  · rintro ⟨entry, h⟩
    obtain ⟨e, hone, hload⟩ := loadField_eq_ok_iff.mp h
    exact ⟨e, hone, (loadEntry_eq_ok_iff.mp hload).1⟩
  · rintro ⟨e, hone, hwidth, hspan⟩
    exact ⟨⟨e.offset, e.width, e.scale, e.signed, hwidth, hspan⟩, loadField_eq_ok_iff.mpr
      ⟨e, hone, loadEntry_eq_ok_iff.mpr ⟨⟨hwidth, hspan⟩, rfl, rfl, rfl, rfl⟩⟩⟩

/-- Settles O60: a table is loaded name by name, and a name from its one entry, which each row of
the table is under its own name. -/
theorem fieldTableCheck : Obligations.FieldTableCheck := by
  intro rows
  refine ⟨exists_loadFieldTable_iff.trans (forall_congr' fun name => exists_loadField_iff),
    fun table hload e hmem => ?_⟩
  obtain ⟨e', hone, hentry⟩ := loadField_eq_ok_iff.mp (loadFieldTable_eq_ok_iff.mp hload e.name)
  have hmem' : e ∈ rows.filter (fun row => row.name == e.name) :=
    List.mem_filter.mpr ⟨hmem, beq_self_eq_true e.name⟩
  rw [hone, List.mem_singleton] at hmem'
  subst hmem'
  exact (loadEntry_eq_ok_iff.mp hentry).2

end Sys2Proof.Proofs.FieldTableLoad
end

section
/-! The poll timer's operations and TICK (R200 to R214): one equation each, and the transition table
they make. -/

namespace Sys2Proof.Proofs.TimerOps

open Sys2Proof Sys2Proof.Machine Sys2Proof.Safety Sys2Proof.Proofs.CrcVerify
  Sys2Proof.Proofs.PsFireEnabled Sys2Proof.Proofs.PsStartStop Sys2Proof.Proofs.AfterStop

theorem exec_tick (s : State) : exec .tick s = .next (s.countDown.setResult .none) := rfl

theorem exec_dspDisconnect (s : State) :
    exec .dspDisconnect s =
      .next (((s.cancel.setConn .Disconnected).setRecord none).setResult .none) := rfl

theorem exec_psStart_of_lt_one {n : Int} (f : OnFire) (s : State) (h : n < 1) :
    exec (.psStart n f) s = .refused .intervalBelowOne :=
  if_pos h

/-- A PS.START that completes has an admissible interval (R203). -/
theorem one_le_of_exec_psStart {n : Int} {f : OnFire} {s t : State}
    (h : exec (.psStart n f) s = .next t) : 1 ≤ n := by
  by_contra hlt
  rw [exec_psStart_of_lt_one f s (Int.not_le.mp hlt)] at h
  exact nomatch h

/-- PS.START in Stopped (R202). -/
theorem exec_psStart_of_stopped {n : Int} (f : OnFire) {s : State} (hinterval : 1 ≤ n)
    (hstopped : s.psState = .Stopped) : exec (.psStart n f) s = .next (s.setResult .none) := by
  have hstart : startTimer n.toNat f s = s := by
    rcases startTimer_cases n.toNat f s with ⟨-, hsame⟩ | ⟨hne, -⟩
    · exact hsame
    · exact absurd hstopped hne
  calc exec (.psStart n f) s
    _ = ret .none (startTimer n.toNat f s) := if_neg (Int.not_lt.mpr hinterval)
    _ = .next (s.setResult .none) := by rw [hstart, ret]

/-- An enabled PS.FIRE (R206, R207): the outputs of its action, and the count of the next period
where the active flag asks for one. -/
theorem exec_psFire_of_fireEnabled {s : State} (henabled : fireEnabled s = true) :
    exec .psFire s = .next { s with
      trace := s.trace ++ fireOutputs s.cfg s.psOnfire s.txAnswer
      psCount := if s.psActive then s.psInterval * s.cfg.ticksPerSecond else 0
      result := .none } := by
  obtain ⟨hstate, hcount⟩ := fireEnabled_eq_true_iff.mp henabled
  simp only [exec, execPsFire, henabled, if_true, fireAction_eq]
  cases s.psActive <;> simp [ret, State.setResult, State.rearm, hstate, hcount]

/-- DSP.READY with a slot of its own (R231). -/
theorem exec_dspReady_of_custom {s : State} (hslot : s.slotConnected = .Custom) :
    exec .dspReady s = .next (((s.setConn .Ready).emit .sinkConnected).setResult .none) := by
  simp [exec, execDspReady, ret, hslot]

/-- DSP.READY with the default slot arms a full poll interval (R231, R232). -/
theorem exec_dspReady_of_default {s : State} (hslot : s.slotConnected = .Default) :
    exec .dspReady s = .next ((((s.setConn .Ready).emit .sinkConnected).arm s.cfg.pollInterval
      .ReadCycle).setResult .none) := by
  simp [exec, execDspReady, ret, hslot, startPolling_eq]

/-! ## The statements on one operation -/

/-- Settles O28: TICK is the count-down, which touches one register. -/
theorem tickEffect : Obligations.TickEffect := by
  intro s
  exact ⟨_, exec_tick s, fun h => if_pos h, fun h => if_neg h, rfl, rfl, rfl, rfl, ⟨rfl, rfl⟩,
    ⟨rfl, rfl, rfl, rfl, rfl⟩, rfl⟩

/-- Settles O31: the interval is checked before the state (R203, log 15). -/
theorem psStartBelowOneRefused : Obligations.PsStartBelowOneRefused :=
  fun _ f s h => exec_psStart_of_lt_one f s h

/-- Settles O30: what an operation other than a starting DSP.READY can do in Stopped leaves the
scheduler stopped. -/
theorem stoppedIsTerminal : Obligations.StoppedIsTerminal := by
  refine ⟨fun n f s hinterval hstopped => ⟨_, exec_psStart_of_stopped f hinterval hstopped,
    onlyResult_setResult s _⟩, fun i s t hstopped hexec hleft => ?_⟩
  by_contra hready
  exact hleft (stoppedQuietly_of_exec hstopped (fun _ => hready) hexec).stopped

/-- Settles O32: the outputs by action and answer of the transport, the count by the active flag. -/
theorem psFireEffect : Obligations.PsFireEffect := by
  intro s hstate hcount
  refine ⟨_, exec_psFire_of_fireEnabled (fireEnabled_eq_true_iff.mpr ⟨hstate, hcount⟩),
    fun hstrobe => ?strobe, fun hread hok => ?ok, fun hread hfail => ?fail, hstate,
    fun hactive => ?active, fun hinactive => ?inactive, rfl, rfl, rfl, ⟨rfl, rfl⟩,
    ⟨rfl, rfl, rfl, rfl, rfl⟩⟩
  case strobe => simp [hstrobe, fireOutputs]
  case ok => simp [hread, hok, fireOutputs]
  case fail => simp [hread, hfail, fireOutputs]
  case active => simp [hactive]
  case inactive => simp [hinactive]

/-- Settles O35: each column of the table is the equation of its operation. -/
theorem schedulerTransitionTable : Obligations.SchedulerTransitionTable := by
  refine fun s => ⟨fun n f t hexec => ⟨fun hstopped => ?_, fun hne => ?_⟩, fun t hexec => ?_,
    fun t hexec => ?_, fun t hexec => ?_, fun t hexec => ?_, fun t hslot hexec => ?_⟩
  · rw [exec_psStart_of_stopped f (one_le_of_exec_psStart hexec) hstopped] at hexec
    obtain rfl := Host.Outcome.next.inj hexec
    exact ⟨hstopped, rfl⟩
  · have hinterval := one_le_of_exec_psStart hexec
    rw [exec_psStart_of_ne_stopped f hinterval hne] at hexec
    obtain rfl := Host.Outcome.next.inj hexec
    refine ⟨rfl, ?_⟩
    rw [State.setResult_psCount, State.arm_psCount, Nat.cast_mul, Int.toNat_of_nonneg (by omega)]
  · obtain rfl := ret_next hexec
    exact ⟨rfl, rfl⟩
  · obtain ⟨hstate, hcount⟩ := (psFireWhenExpired s).1.mpr ⟨t, hexec⟩
    rw [exec_psFire_of_fireEnabled (fireEnabled_eq_true_iff.mpr ⟨hstate, hcount⟩)] at hexec
    obtain rfl := Host.Outcome.next.inj hexec
    exact ⟨hstate, hcount, hstate, fun hactive => if_pos hactive⟩
  · obtain rfl := ret_next hexec
    rfl
  · obtain rfl := ret_next hexec
    rfl
  · rw [exec_dspReady_of_default hslot] at hexec
    obtain rfl := Host.Outcome.next.inj hexec
    exact ⟨rfl, rfl⟩

/-! ## Runs from an armed timer -/

/-- Settles O57: of the shapes of effect an operation can have, only cancelling leaves Armed. -/
theorem onlyStopsLeaveArmed : Obligations.OnlyStopsLeaveArmed := by
  intro i s t harmed hexec hleft
  rcases exec_next_cases hexec with ⟨r, rfl⟩ | ⟨frame, r, rfl, -⟩ | ⟨n, f, -, -, -, rfl⟩ |
    ⟨-, -, -, rfl⟩ | ⟨-, -, -, rfl⟩ | ⟨hi, -⟩ | ⟨-, rfl⟩ | ⟨-, -, rfl⟩ | ⟨-, -, rfl⟩ |
    ⟨buf, -, rfl⟩ | ⟨hi, -⟩
  · exact absurd harmed hleft
  · exact absurd harmed hleft
  · exact absurd rfl hleft
  · exact absurd rfl hleft
  · rw [fireAction_eq] at hleft
    exact absurd harmed hleft
  · exact .inl hi
  · exact absurd harmed hleft
  · exact absurd harmed hleft
  · exact absurd rfl hleft
  · rw [deliver_eq] at hleft
    exact absurd harmed hleft
  · exact .inr hi

/-- The timer is cancelled, or it is armed and at most `k` lower than in `s`. -/
def CountedAtMost (k : Nat) (s t : State) : Prop :=
  t.psState = .Stopped ∨ (t.psState = .Armed ∧ s.psCount ≤ t.psCount + k)

theorem CountedAtMost.of_psCount_eq {s t : State} (k : Nat) (hstate : t.psState = .Armed)
    (hcount : t.psCount = s.psCount) : CountedAtMost k s t :=
  .inr ⟨hstate, by omega⟩

/-- An operation neither starts nor fires the timer. -/
def LeavesTimerRunning (slot : SlotConnected) (i : Instr) : Prop :=
  (∀ n f, i ≠ .psStart n f) ∧ i ≠ .psFire ∧ (slot = .Default → i ≠ .dspReady)

/-- Such an operation takes at most one off an armed count, and only TICK does (R204, R210). -/
theorem countedAtMost_of_exec {i : Instr} {s t : State} (harmed : s.psState = .Armed)
    (hkeeps : LeavesTimerRunning s.slotConnected i) (hexec : exec i s = .next t) :
    t.slotConnected = s.slotConnected ∧ CountedAtMost ([i].count .tick) s t := by
  obtain ⟨hstart, hfire, hready⟩ := hkeeps
  rcases exec_next_cases hexec with ⟨r, rfl⟩ | ⟨frame, r, rfl, -⟩ | ⟨n, f, hi, -⟩ |
    ⟨hi, -⟩ | ⟨hi, -⟩ | ⟨-, rfl⟩ | ⟨rfl, rfl⟩ | ⟨-, -, rfl⟩ | ⟨hi, hslot, -⟩ |
    ⟨buf, -, rfl⟩ | ⟨-, rfl⟩
  · exact ⟨rfl, .of_psCount_eq _ harmed rfl⟩
  · exact ⟨rfl, .of_psCount_eq _ harmed rfl⟩
  · exact absurd hi (hstart n f)
  · exact absurd hi hfire
  · exact absurd hi hfire
  · exact ⟨rfl, .inl rfl⟩
  · refine ⟨rfl, .inr ⟨harmed, ?_⟩⟩
    rw [State.setResult_psCount, State.countDown_psCount, List.count_singleton_self]
    split <;> omega
  · exact ⟨rfl, .of_psCount_eq _ harmed rfl⟩
  · exact absurd hi (hready hslot)
  · rw [deliver_eq]
    exact ⟨rfl, .of_psCount_eq _ harmed rfl⟩
  · exact ⟨rfl, .inl rfl⟩

/-- Along a run the count goes down by the number of TICKs at most, unless the timer is
cancelled; from then on the scheduler stays stopped. -/
theorem countedAtMost_of_execAll {ops : List Instr} {s t : State} (harmed : s.psState = .Armed)
    (hkeeps : ∀ i ∈ ops, LeavesTimerRunning s.slotConnected i) (hrun : execAll ops s = some t) :
    CountedAtMost (ops.count .tick) s t := by
  induction ops generalizing s with
  | nil =>
    obtain rfl : s = t := Option.some.inj hrun
    exact .of_psCount_eq _ harmed rfl
  | cons i ops ih =>
    obtain ⟨u, hexec, hrest⟩ := execAll_cons_eq_some_iff.mp hrun
    obtain ⟨hslot, hfirst⟩ := countedAtMost_of_exec harmed (hkeeps i List.mem_cons_self) hexec
    have hkeeps' : ∀ j ∈ ops, LeavesTimerRunning u.slotConnected j := fun j hj =>
      hslot ▸ hkeeps j (List.mem_cons_of_mem i hj)
    rcases hfirst with hstopped | ⟨harmed', hcount⟩
    · have hready : u.slotConnected = .Default → Instr.dspReady ∉ ops := fun hdefault hmem => by
        obtain ⟨-, -, hne⟩ := hkeeps' _ hmem
        exact hne hdefault rfl
      obtain ⟨hquiet, -⟩ := stoppedQuietly_of_execAll hstopped hready hrest
      exact .inl hquiet.stopped
    · have hsplit : (i :: ops).count .tick = [i].count .tick + ops.count .tick :=
        List.count_append (l₁ := [i])
      rcases ih harmed' hkeeps' hrest with hstopped | ⟨harmed'', hcount'⟩
      · exact .inl hstopped
      · exact .inr ⟨harmed'', by omega⟩

/-- Settles O37: a fire is enabled in Armed at count 0 only, so the TICKs have counted everything
down. -/
theorem noFireBeforeCountRunsDown : Obligations.NoFireBeforeCountRunsDown := by
  intro ops s t u harmed hstart hready hfire hrun hexec
  have hkeeps : ∀ i ∈ ops, LeavesTimerRunning s.slotConnected i := fun i hi =>
    ⟨fun n f h => hstart n f (h ▸ hi), fun h => hfire (h ▸ hi),
      fun hslot h => hready hslot (h ▸ hi)⟩
  obtain ⟨hstate, hzero⟩ := (psFireWhenExpired t).1.mpr ⟨u, hexec⟩
  rcases countedAtMost_of_execAll harmed hkeeps hrun with hstopped | ⟨-, hcount⟩
  · exact nomatch hstate.symm.trans hstopped
  · omega

end Sys2Proof.Proofs.TimerOps
end

section
/-! The number of fires (R209): the deterministic simulator of decision D21 from a freshly armed
timer, in closed form. -/

namespace Sys2Proof.Proofs.FireCount

open Sys2Proof Sys2Proof.Machine Sys2Proof.Safety Sys2Proof.Proofs.PsFireEnabled
  Sys2Proof.Proofs.PsStartStop Sys2Proof.Proofs.TimerOps

/-- The full interval in ticks (R201, R206). -/
def period (s : State) : Nat := s.psInterval * s.cfg.ticksPerSecond

/-- What one fire puts on the ports in `s` (R206). -/
def fireOutputsOf (s : State) : List Output := fireOutputs s.cfg s.psOnfire s.txAnswer

/-- `a` after `k` rounds, when its timer was just armed: a fire for each whole period in `k`, and
of the current period the rest is left. -/
def afterRounds (a : State) (k : Nat) : State :=
  { a with
    psCount := period a - k % period a
    trace := a.trace ++ (List.replicate (k / period a) (fireOutputsOf a)).flatten }

/-- A running timer, between two operations without a result. -/
structure Running (s : State) : Prop where
  armed : s.psState = .Armed
  active : s.psActive = true
  noResult : s.result = .none

theorem Running.afterRounds {a : State} (h : Running a) (k : Nat) : Running (afterRounds a k) :=
  ⟨h.armed, h.active, h.noResult⟩

/-- A round is a TICK and the fire that it enables (R205, decision D21). -/
theorem tickRound_eq (s : State) :
    tickRound s =
      if fireEnabled s.countDown then execAll [.psFire] (s.countDown.setResult .none)
      else some (s.countDown.setResult .none) := rfl

/-- A round that leaves ticks to count. -/
theorem tickRound_of_one_lt {s : State} (h : Running s) (hcount : 1 < s.psCount) :
    tickRound s = some { s with psCount := s.psCount - 1 } := by
  have hdown : s.countDown.setResult .none = { s with psCount := s.psCount - 1 } := by
    simp [State.countDown, State.setResult, h.armed, h.noResult, show 0 < s.psCount by omega]
  have hdisabled : ¬ fireEnabled s.countDown = true := by
    simp [fireEnabled_eq_true_iff, h.armed, show 0 < s.psCount by omega]
    omega
  rw [tickRound_eq, if_neg hdisabled, hdown]

/-- A round that counts the last tick of a period: it fires, and the next period begins. -/
theorem tickRound_of_eq_one {s : State} (h : Running s) (hcount : s.psCount = 1) :
    tickRound s = some { s with
      psCount := period s
      trace := s.trace ++ fireOutputsOf s } := by
  have henabled : fireEnabled s.countDown = true := by
    simp [fireEnabled_eq_true_iff, h.armed, hcount]
  rw [tickRound_eq, if_pos henabled, execAll,
    exec_psFire_of_fireEnabled (s := s.countDown.setResult .none) henabled]
  simp [execAll, h.active, h.noResult, period, fireOutputsOf, State.countDown, State.setResult]

/-- The last of `k + 1` rounds comes after `k` of them. -/
theorem tickRounds_succ (k : Nat) (s : State) :
    tickRounds (k + 1) s = (tickRounds k s).bind tickRound := by
  induction k generalizing s with
  | zero =>
    rw [tickRounds, tickRounds, Option.bind_some]
    cases tickRound s <;> rfl
  | succ k ih =>
    rw [tickRounds]
    conv_rhs => rw [tickRounds]
    cases tickRound s with
    | none => rfl
    | some t => exact ih t

/-- Within a period a further tick is one more of the rest. -/
theorem succ_div_mod_of_lt {k p : Nat} (h : k % p + 1 < p) :
    (k + 1) / p = k / p ∧ (k + 1) % p = k % p + 1 :=
  (Nat.div_mod_unique (by omega)).mpr ⟨by have := Nat.mod_add_div k p; omega, h⟩

/-- The last tick of a period completes it. -/
theorem succ_div_mod_of_eq {k p : Nat} (h : k % p + 1 = p) :
    (k + 1) / p = k / p + 1 ∧ (k + 1) % p = 0 :=
  (Nat.div_mod_unique (by omega)).mpr
    ⟨by have := Nat.mod_add_div k p; rw [Nat.mul_add]; omega, by omega⟩

/-- One more round, within a period or at its end. -/
theorem tickRound_afterRounds {a : State} (h : Running a) (hperiod : 1 ≤ period a) (k : Nat) :
    tickRound (afterRounds a k) = some (afterRounds a (k + 1)) := by
  have hlt : k % period a < period a := Nat.mod_lt k hperiod
  by_cases hlast : k % period a + 1 = period a
  · obtain ⟨hdiv, hmod⟩ := succ_div_mod_of_eq hlast
    have hcount : (afterRounds a k).psCount = 1 := show period a - k % period a = 1 by omega
    rw [tickRound_of_eq_one (h.afterRounds k) hcount]
    simp only [afterRounds, hdiv, hmod, List.replicate_succ', List.flatten_append,
      List.flatten_singleton, List.append_assoc]
    rfl
  · obtain ⟨hdiv, hmod⟩ := succ_div_mod_of_lt (by omega : k % period a + 1 < period a)
    have hcount : 1 < (afterRounds a k).psCount := show 1 < period a - k % period a by omega
    rw [tickRound_of_one_lt (h.afterRounds k) hcount]
    simp only [afterRounds, hdiv, hmod, Nat.sub_sub]

/-- The rounds from a freshly armed timer, in closed form. -/
theorem tickRounds_eq_afterRounds {a : State} (h : Running a) (hperiod : 1 ≤ period a)
    (hfull : a.psCount = period a) (k : Nat) : tickRounds k a = some (afterRounds a k) := by
  induction k with
  | zero => simp [tickRounds, afterRounds, ← hfull]
  | succ k ih => rw [tickRounds_succ, ih, Option.bind_some, tickRound_afterRounds h hperiod]

/-- Settles O38: a PS.START arms the timer whose rounds `afterRounds` gives, and a second one
arms the same timer again. -/
theorem firesPerTicks : Obligations.FiresPerTicks := by
  intro n k f s a b hn hne hfirst hsecond
  have hinterval : 1 ≤ (n : Int) := by omega
  rw [exec_psStart_of_ne_stopped f hinterval hne] at hfirst
  obtain rfl := Host.Outcome.next.inj hfirst
  rw [exec_psStart_of_ne_stopped f hinterval (by simp)] at hsecond
  obtain rfl := Host.Outcome.next.inj hsecond
  rw [Int.toNat_natCast]
  have hperiod : 1 ≤ period ((s.arm n f).setResult .none) := Nat.mul_pos hn s.cfg.ticksPerSecond_pos
  have hrounds := tickRounds_eq_afterRounds ⟨rfl, rfl, rfl⟩ hperiod rfl k
  refine ⟨_, _, hrounds, hrounds, rfl, fun hstrobe => ?strobe, fun hread hok => ?ok,
    fun hread hfail => ?fail, rfl⟩
  case strobe =>
    subst hstrobe
    exact congrArg (s.trace ++ ·) (List.flatten_replicate_singleton ..)
  case ok =>
    subst hread
    have hout : fireOutputs s.cfg .ReadCycle s.txAnswer = [.txWrite (pollRequest s.cfg)] := by
      rw [hok]; rfl
    show s.trace ++ (List.replicate _ (fireOutputs s.cfg .ReadCycle s.txAnswer)).flatten = _
    rw [hout, List.flatten_replicate_singleton]
    rfl
  case fail =>
    subst hread
    have hout : fireOutputs s.cfg .ReadCycle s.txAnswer =
        [.txWrite (pollRequest s.cfg), .err .transportWriteFailed] := by
      rw [hfail]; rfl
    show s.trace ++ (List.replicate _ (fireOutputs s.cfg .ReadCycle s.txAnswer)).flatten = _
    rw [hout]
    rfl

end Sys2Proof.Proofs.FireCount
end

section
/-! The multiset `TIMERS` of R26, kept beside the state along a run. -/

namespace Sys2Proof.Proofs.TimerMultiset

open Sys2Proof Sys2Proof.Machine Sys2Proof.Safety Sys2Proof.Proofs.PsFireEnabled
  Sys2Proof.Proofs.StepInvariants Sys2Proof.Proofs.TimerOps Sys2Proof.Proofs.PsStartStop

theorem timers_of_armed {s : State} (h : s.psState = .Armed) : timers s = [s.psCount] := by
  simp [timers, timerPresent, h]

theorem timers_of_ne_armed {s : State} (h : s.psState ≠ .Armed) : timers s = [] := by
  simp [timers, timerPresent, h]

theorem timers_congr {s t : State} (hstate : t.psState = s.psState)
    (hcount : t.psCount = s.psCount) : timers t = timers s := by
  rw [timers, timers, timerPresent, timerPresent, hstate, hcount]

/-- The operations that R26 lets change the timers. -/
def SetsTimer : Instr → Bool
  | .psStart _ _ | .psFire | .psStop | .tick | .dspReady | .dspDisconnect => true
  | _ => false

theorem timersAfter_of_not_setsTimer {i : Instr} (h : SetsTimer i = false) (s : State)
    (T : List Nat) : timersAfter i s T = T := by
  cases i with
  | psStart _ _ | psFire | psStop | tick | dspReady | dspDisconnect => exact nomatch h
  | _ => rfl

theorem timers_of_exec_of_not_setsTimer {i : Instr} {s t : State} (h : SetsTimer i = false)
    (hexec : exec i s = .next t) : timers t = timers s := by
  rcases exec_next_cases hexec with ⟨r, rfl⟩ | ⟨frame, r, rfl, -⟩ | ⟨n, f, rfl, -⟩ |
    ⟨rfl, -⟩ | ⟨rfl, -⟩ | ⟨rfl, -⟩ | ⟨rfl, -⟩ | ⟨rfl, -⟩ | ⟨rfl, -⟩ | ⟨buf, -, rfl⟩ | ⟨rfl, -⟩
  · exact timers_congr rfl rfl
  · exact timers_congr rfl rfl
  iterate 7 exact nomatch h
  · rw [deliver_eq]
    exact timers_congr rfl rfl
  · exact nomatch h

/-- The multiset after a TICK: an armed count goes down by 1, and 0 stays 0 (R204). -/
theorem timers_countDown (s : State) :
    timers s.countDown = (timers s).map fun count => count - 1 := by
  by_cases harmed : s.psState = .Armed
  · rw [timers_of_armed harmed, timers_of_armed (s := s.countDown) harmed, State.countDown_psCount]
    by_cases hpos : 0 < s.psCount
    · simp [harmed, hpos]
    · simp [hpos]
      omega
  · rw [timers_of_ne_armed harmed, timers_of_ne_armed (s := s.countDown) harmed, List.map_nil]

/-- One operation does to the multiset what it does to the state's one counter. -/
theorem timersAfter_timers {i : Instr} {s t : State} (hok : TimerOk s)
    (hexec : exec i s = .next t) : timersAfter i s (timers s) = timers t := by
  cases i with
  | psStart n f =>
    have hinterval := one_le_of_exec_psStart hexec
    by_cases hstopped : s.psState = .Stopped
    · rw [exec_psStart_of_stopped f hinterval hstopped] at hexec
      obtain rfl := Host.Outcome.next.inj hexec
      exact if_pos hstopped
    · rw [exec_psStart_of_ne_stopped f hinterval hstopped] at hexec
      obtain rfl := Host.Outcome.next.inj hexec
      exact if_neg hstopped
  | psFire =>
    have henabled : fireEnabled s = true :=
      fireEnabled_eq_true_iff.mpr ((psFireWhenExpired s).1.mpr ⟨t, hexec⟩)
    obtain ⟨harmed, hcount⟩ := fireEnabled_eq_true_iff.mp henabled
    have hactive := psActive_of_fireEnabled hok henabled
    rw [exec_psFire_of_fireEnabled henabled] at hexec
    obtain rfl := Host.Outcome.next.inj hexec
    rw [timers_of_armed harmed]
    simp [timersAfter, armTimer, timers, timerPresent, harmed, hactive, hcount]
  | psStop => obtain rfl := ret_next hexec; rfl
  | dspDisconnect => obtain rfl := ret_next hexec; rfl
  | tick => obtain rfl := ret_next hexec; exact (timers_countDown s).symm
  | dspReady =>
    cases hslot : s.slotConnected
    · rw [exec_dspReady_of_default hslot] at hexec
      obtain rfl := Host.Outcome.next.inj hexec
      simp [timersAfter, hslot, timers, timerPresent, armTimer, cancelTimers]
    · rw [exec_dspReady_of_custom hslot] at hexec
      obtain rfl := Host.Outcome.next.inj hexec
      simp [timersAfter, hslot, timers, timerPresent]
  | _ =>
    rw [timersAfter_of_not_setsTimer rfl, timers_of_exec_of_not_setsTimer rfl hexec]

/-- Along a run the multiset stays what R26 says, the state's one counter when Armed. -/
theorem timers_of_execAllTimers {ops : List Instr} {s t : State} {T : List Nat} (hok : TimerOk s)
    (hrun : execAllTimers ops s (timers s) = some (t, T)) : T = timers t := by
  induction ops generalizing s with
  | nil =>
    obtain ⟨rfl, rfl⟩ := Prod.mk.inj (Option.some.inj hrun)
    rfl
  | cons i ops ih =>
    rw [execAllTimers] at hrun
    cases hexec : exec i s with
    | next u =>
      simp only [hexec, timersAfter_timers hok hexec] at hrun
      exact ih (timerOk_of_exec hok hexec) hrun
    | fault e => exact nomatch e
    | refused r => simp [hexec] at hrun

/-- Settles O41: the multiset is the state's, which holds one count exactly when Armed. -/
theorem atMostOneTimer : Obligations.AtMostOneTimer := by
  intro ops s t T hok hrun
  obtain rfl := timers_of_execAllTimers hok hrun
  by_cases harmed : t.psState = .Armed
  · simp [timers_of_armed harmed, harmed]
  · simp [timers_of_ne_armed harmed, harmed]

end Sys2Proof.Proofs.TimerMultiset
end

section
/-! The Dispatcher's operations (R230 to R241), the reset values (R311) and the severity of a logged
error (R270). -/

namespace Sys2Proof.Proofs.DispatcherOps

open Sys2Proof Sys2Proof.Machine Sys2Proof.Safety Sys2Proof.Proofs.CrcVerify
  Sys2Proof.Proofs.DecParse Sys2Proof.Proofs.ReadCycle Sys2Proof.Proofs.Errors
  Sys2Proof.Proofs.AfterStop Sys2Proof.Proofs.EncoderOps Sys2Proof.Proofs.DecoderOps
  Sys2Proof.Proofs.TimerOps

/-- DSP.NOTIFY delivers what DEC.PARSE answers (R234). -/
theorem exec_dspNotify (B : Bytes) (s : State) :
    exec (.dspNotify B) s = .next { s with
      lastRecord := retained (parse s.cfg B) s.lastRecord
      trace := s.trace ++ deliverOutputs s.slotData (parse s.cfg B)
      result := .none } := by
  rw [exec, execDspNotify, ret, deliver_eq]
  rfl

/-- What stands on the result port after DEC.PARSE is what the decoder answered. -/
theorem parse_eq_ok_of_exec_decParse {B : Bytes} {s p : State} {d : Decoded}
    (hexec : exec (.decParse B) s = .next p) (hresult : p.result = .ok (.decoded d)) :
    parse s.cfg B = .ok d := by
  cases hparse : parse s.cfg B with
  | ok d' =>
    rw [exec_decParse_of_parse_ok hparse] at hexec
    obtain rfl := Host.Outcome.next.inj hexec
    rw [OkValue.decoded.inj (OpResult.ok.inj hresult)]
  | err e =>
    rw [exec_decParse_of_parse_err hparse] at hexec
    obtain rfl := Host.Outcome.next.inj hexec
    exact nomatch hresult

theorem parse_eq_err_of_exec_decParse {B : Bytes} {s p : State} {e : ProtocolError}
    (hexec : exec (.decParse B) s = .next p) (hresult : p.result = .err (.protocol e)) :
    parse s.cfg B = .err e := by
  cases hparse : parse s.cfg B with
  | ok d =>
    rw [exec_decParse_of_parse_ok hparse] at hexec
    obtain rfl := Host.Outcome.next.inj hexec
    exact nomatch hresult
  | err e' =>
    rw [exec_decParse_of_parse_err hparse] at hexec
    obtain rfl := Host.Outcome.next.inj hexec
    rw [ErrorKind.protocol.inj (OpResult.err.inj hresult)]

/-- Settles O42: by the binding of the slot. -/
theorem dspReadyEffect : Obligations.DspReadyEffect := by
  intro s
  cases hslot : s.slotConnected
  · exact ⟨_, exec_dspReady_of_default hslot, rfl, rfl, rfl, ⟨rfl, rfl, rfl, rfl, rfl⟩,
      fun hcustom => (nomatch hcustom), fun _ => ⟨rfl, rfl, rfl, rfl, rfl⟩⟩
  · exact ⟨_, exec_dspReady_of_custom hslot, rfl, rfl, rfl, ⟨rfl, rfl, rfl, rfl, rfl⟩,
      fun _ => ⟨rfl, rfl, rfl, rfl, rfl⟩, fun hdefault => (nomatch hdefault)⟩

/-- Settles O44: what is retained and emitted, by the decoder's answer. -/
theorem dspNotifyEffect : Obligations.DspNotifyEffect := by
  intro B s
  obtain ⟨p, hp, -⟩ := exec_decParse_errors B s
  refine ⟨_, p, exec_dspNotify B s, hp, ⟨rfl, rfl, rfl, rfl, rfl⟩, rfl, ⟨rfl, rfl, rfl, rfl, rfl⟩,
    fun rec hrec => ?telemetry, fun w hw => ?ack, fun e he => ?error⟩
  case telemetry =>
    simp only [parse_eq_ok_of_exec_decParse hp hrec]
    exact ⟨rfl, fun hbound => by rw [hbound]; rfl,
      fun hunbound => by rw [hunbound]; exact List.append_nil _⟩
  case ack =>
    simp only [parse_eq_ok_of_exec_decParse hp hw]
    exact ⟨rfl, fun hbound => by rw [hbound]; rfl,
      fun hunbound => by rw [hunbound]; exact List.append_nil _⟩
  case error =>
    simp only [parse_eq_err_of_exec_decParse hp he]
    exact ⟨rfl, rfl⟩

/-- Settles O45: in range it is a transport write of the frame that ENC.WRITE answers. -/
theorem dspSetloadEffect : Obligations.DspSetloadEffect := by
  refine fun v s => ⟨fun ⟨hlow, hhigh⟩ => ?_, fun hout =>
    ⟨_, exec_dspSetload_of_outOfRange s hout, onlyResult_setResult s _, rfl⟩⟩
  have hencode := encodeRequest_fields Config.opWrite s.cfg.deviceAddress s.cfg.loadRegister
    (BitVec.ofInt 16 v)
  rw [toNat_ofInt_word ⟨hlow, hhigh⟩] at hencode
  refine ⟨_, _, _, (exec_dspSetload_of_inRange s hlow hhigh).trans (answerSent_transmit _ s),
    answerEncoded_of_ok hencode s, rfl, rfl, sameState_emit_setResult s _ _, fun hok => ?_,
    fun hfail => ?_⟩
  · rw [hok, State.setResult_result]
  · rw [hfail, State.setResult_result]

/-- Settles O46: every register it writes gets a fixed value, so a second one changes nothing. -/
theorem dspDisconnectEffect : Obligations.DspDisconnectEffect :=
  fun s => ⟨_, exec_dspDisconnect s, rfl, rfl, rfl, rfl, rfl, rfl, rfl,
    ⟨rfl, rfl, rfl, rfl, rfl⟩, rfl, exec_dspDisconnect _⟩

/-- Settles O47: DSP.READY arms the full count from Stopped too. -/
theorem reconnectStartsAfresh : Obligations.ReconnectStartsAfresh := by
  intro s hslot
  have hready := exec_dspReady_of_default
    (s := ((s.cancel.setConn .Disconnected).setRecord none).setResult .none) hslot
  have hrun : execAll [.dspDisconnect, .dspReady] s = some _ := execAll_cons_eq_some_iff.mpr
    ⟨_, exec_dspDisconnect s, execAll_cons_eq_some_iff.mpr ⟨_, hready, rfl⟩⟩
  exact ⟨_, hrun, rfl, rfl, rfl, rfl, rfl, rfl, rfl, rfl, rfl⟩

/-- Settles O50: each register at its value of R311. -/
theorem resetValues : Obligations.ResetValues :=
  ⟨rfl, rfl, rfl, rfl, rfl, rfl, rfl, rfl, rfl, rfl⟩

/-- Settles O56: by the error. -/
theorem logSeverity : Obligations.LogSeverity := ⟨fun _ => rfl, rfl, rfl, rfl⟩

end Sys2Proof.Proofs.DispatcherOps
end

section
/-! What operations do not read: `CONN` (R240), `LAST_RECORD` (R28), and the interval and action
of a timer that is not armed (R23, R25). Performed in a state that differs there, an operation
answers the same, or the same but for that difference. -/

namespace Sys2Proof.Proofs.NonInterference

open Sys2Proof Sys2Proof.Machine Sys2Proof.Proofs.DecParse
  Sys2Proof.Proofs.PsFireEnabled Sys2Proof.Proofs.PsStartStop
  Sys2Proof.Proofs.TimerOps Sys2Proof.Proofs.DispatcherOps

/-- An answer with its next state updated. -/
def mapNext (u : State → State) : Answer → Answer
  | .next t => .next (u t)
  | .fault e => .fault e
  | .refused r => .refused r

/-- The operations that write a register of R20. -/
def WritesRegister : Instr → Bool
  | .psStart _ _ | .psFire | .psStop | .tick | .dspReady | .dspNotify _ | .dspDisconnect => true
  | _ => false

/-- An update of registers that the result port, the trace, the transport and the configuration
do not show. -/
structure Unseen (u : State → State) : Prop where
  cfg : ∀ s, (u s).cfg = s.cfg
  txAnswer : ∀ s, (u s).txAnswer = s.txAnswer
  setResult : ∀ s r, (u s).setResult r = u (s.setResult r)
  emit : ∀ s o, (u s).emit o = u (s.emit o)

section
variable {u : State → State} (hu : Unseen u) (s : State)
include hu

theorem ret_unseen (r : OpResult) : ret r (u s) = mapNext u (ret r s) :=
  congrArg Host.Outcome.next (hu.setResult s r)

theorem answerEncoded_unseen (r : Result Bytes EncodeError) :
    answerEncoded r (u s) = mapNext u (answerEncoded r s) :=
  ret_unseen hu s _

theorem answerParsed_unseen (r : Result Decoded ProtocolError) :
    answerParsed r (u s) = mapNext u (answerParsed r s) :=
  ret_unseen hu s _

theorem answerSent_unseen (frame : Bytes) :
    answerSent (transmit frame (u s)) = mapNext u (answerSent (transmit frame s)) := by
  rw [answerSent_transmit, answerSent_transmit, hu.txAnswer, hu.emit, hu.setResult]
  rfl

/-- An operation that writes no register reads none either, so it carries the difference along. -/
theorem exec_unseen_of_not_writesRegister {i : Instr} (hi : WritesRegister i = false) :
    exec i (u s) = mapNext u (exec i s) := by
  cases i with
  | frameReadReq a r n c => exact answerEncoded_unseen hu s _
  | frameWriteReq a r v c => exact answerEncoded_unseen hu s _
  | encRead a r n => exact answerEncoded_unseen hu s _
  | encWrite a r v => exact answerEncoded_unseen hu s _
  | crcCompute buf => exact ret_unseen hu s _
  | crcVerify buf => exact ret_unseen hu s _
  | crcAppend buf => exact ret_unseen hu s _
  | frameReadRsp a payload c =>
    rw [exec, execFrameReadRsp, hu.cfg]
    exact answerParsed_unseen hu s _
  | frameWriteRsp a r v c =>
    rw [exec, execFrameWriteRsp, hu.cfg]
    exact answerParsed_unseen hu s _
  | decParse buf =>
    rw [exec, execDecParse, hu.cfg]
    exact answerParsed_unseen hu s _
  | dspReadcycle =>
    rw [exec, execDspReadcycle, readCycle, hu.cfg]
    exact answerSent_unseen hu s _
  | dspSetload v =>
    simp only [exec, execDspSetload, hu.cfg]
    cases encodeRequest Config.opWrite s.cfg.deviceAddress.toNat s.cfg.loadRegister.toNat v with
    | ok frame => exact answerSent_unseen hu s frame
    | err e => exact ret_unseen hu s _
  | psStart _ _ | psFire | psStop | tick | dspReady | dspNotify _ | dspDisconnect =>
    exact nomatch hi

end

/-! ## The session registers -/

/-- `CONN` and `LAST_RECORD` changed, each as a function of its value. -/
def mapSession (g : Conn → Conn) (h : Option TelemetryRecord → Option TelemetryRecord) (s : State) :
    State :=
  { s with conn := g s.conn, lastRecord := h s.lastRecord }

theorem unseen_mapSession (g : Conn → Conn)
    (h : Option TelemetryRecord → Option TelemetryRecord) : Unseen (mapSession g h) :=
  ⟨fun _ => rfl, fun _ => rfl, fun _ _ => rfl, fun _ _ => rfl⟩

/-- The operations that write a session register (R231, R234, R236). -/
def WritesSession : Instr → Bool
  | .dspReady | .dspNotify _ | .dspDisconnect => true
  | _ => false

theorem startTimer_mapSession (g : Conn → Conn)
    (h : Option TelemetryRecord → Option TelemetryRecord) (n : Nat) (f : OnFire) (s : State) :
    startTimer n f (mapSession g h s) = mapSession g h (startTimer n f s) := by
  have hstate : (mapSession g h s).psState = s.psState := rfl
  unfold startTimer
  rw [hstate]
  cases s.psState <;> rfl

/-- The scheduler does not read the session: every operation but the three that write it carries the
difference along. -/
theorem exec_mapSession (g : Conn → Conn) (h : Option TelemetryRecord → Option TelemetryRecord)
    {i : Instr} (hi : WritesSession i = false) (s : State) :
    exec i (mapSession g h s) = mapNext (mapSession g h) (exec i s) := by
  cases i with
  | psStart n f =>
    by_cases hlt : n < 1
    · rw [exec_psStart_of_lt_one f _ hlt, exec_psStart_of_lt_one f _ hlt]
      rfl
    · simp only [exec, execPsStart, if_neg hlt, startTimer_mapSession]
      exact ret_unseen (unseen_mapSession g h) _ _
  | psFire =>
    by_cases henabled : fireEnabled s = true
    · rw [exec_psFire_of_fireEnabled henabled,
        exec_psFire_of_fireEnabled (s := mapSession g h s) henabled]
      rfl
    · rw [exec_psFire_refused_of_not_fireEnabled henabled,
        exec_psFire_refused_of_not_fireEnabled (s := mapSession g h s) henabled]
      rfl
  | psStop => rfl
  | tick => rfl
  | dspReady | dspNotify _ | dspDisconnect => exact nomatch hi
  | _ => exact exec_unseen_of_not_writesRegister (unseen_mapSession g h) s rfl

/-- The two operations that write `CONN` overwrite the difference; the others carry it along. -/
theorem exec_setConn (i : Instr) (s : State) (c : Conn) :
    exec i (s.setConn c) = exec i s ∨ exec i (s.setConn c) = mapNext (·.setConn c) (exec i s) := by
  cases i with
  | dspReady => exact .inl rfl
  | dspNotify buf =>
    rw [exec_dspNotify, exec_dspNotify]
    exact .inr rfl
  | dspDisconnect => exact .inl rfl
  | _ => exact .inr (exec_mapSession (fun _ => c) id rfl s)

/-- Settles O48: with either kind of answer the two next states differ in `CONN` at most. -/
theorem connIsNeverRead : Obligations.ConnIsNeverRead := by
  refine fun i s c => ⟨fun t hexec => ?_, fun r hexec => ?_⟩
  · rcases exec_setConn i s c with h | h
    · exact ⟨t, h.trans hexec, rfl, .inr rfl⟩
    · exact ⟨t.setConn c, h.trans (by rw [hexec]; rfl), rfl, .inl rfl⟩
  · rcases exec_setConn i s c with h | h
    · exact h.trans hexec
    · exact h.trans (by rw [hexec]; rfl)

/-- DSP.DISCONNECT and a DSP.NOTIFY of telemetry overwrite the difference; every other operation
carries it along. -/
theorem exec_setRecord (i : Instr) (s : State) (r : Option TelemetryRecord) :
    exec i (s.setRecord r) = exec i s ∨
      exec i (s.setRecord r) = mapNext (·.setRecord r) (exec i s) := by
  cases i with
  | dspReady =>
    cases hslot : s.slotConnected
    · rw [exec_dspReady_of_default hslot, exec_dspReady_of_default (s := s.setRecord r) hslot]
      exact .inr rfl
    · rw [exec_dspReady_of_custom hslot, exec_dspReady_of_custom (s := s.setRecord r) hslot]
      exact .inr rfl
  | dspNotify buf =>
    rw [exec_dspNotify, exec_dspNotify, State.setRecord_cfg]
    match parse s.cfg buf with
    | .ok (.telemetry _) => exact .inl rfl
    | .ok (.writeAck _) => exact .inr rfl
    | .err _ => exact .inr rfl
  | dspDisconnect => exact .inl rfl
  | _ => exact .inr (exec_mapSession id (fun _ => r) rfl s)

/-- Who writes `LAST_RECORD` (R28): by the shapes of effect, DSP.NOTIFY and DSP.DISCONNECT alone. -/
theorem lastRecord_of_exec {i : Instr} {s t : State} (hexec : exec i s = .next t) :
    t.lastRecord = s.lastRecord ∨ (i = .dspDisconnect ∧ t.lastRecord = none) ∨
      ∃ B, i = .dspNotify B ∧ t.lastRecord = retained (parse s.cfg B) s.lastRecord := by
  rcases exec_next_cases hexec with ⟨r, rfl⟩ | ⟨frame, r, rfl, -⟩ | ⟨n, f, -, -, -, rfl⟩ |
    ⟨-, -, -, rfl⟩ | ⟨-, -, -, rfl⟩ | ⟨-, rfl⟩ | ⟨-, rfl⟩ | ⟨-, -, rfl⟩ | ⟨-, -, rfl⟩ |
    ⟨buf, hi, rfl⟩ | ⟨hi, rfl⟩
  · exact .inl rfl
  · exact .inl rfl
  · exact .inl rfl
  · rw [fireAction_eq]
    exact .inl rfl
  · rw [fireAction_eq]
    exact .inl rfl
  iterate 4 exact .inl rfl
  · rw [deliver_eq]
    exact .inr (.inr ⟨buf, hi, rfl⟩)
  · exact .inr (.inl ⟨hi, rfl⟩)

/-- Settles O49: the record DSP.NOTIFY retains is the decoder's, and no other operation sets one. -/
theorem lastRecordLaw : Obligations.LastRecordLaw := by
  refine ⟨rfl, fun i s t hexec => ?written, fun B s t p rec hexec hp hrec => ?notified,
    fun s t hexec => ?cleared, fun i s t r hexec => ?unread⟩
  case written =>
    rcases lastRecord_of_exec hexec with hsame | hcleared | ⟨B, rfl, hretained⟩
    · exact .inl hsame
    · exact .inr (.inl hcleared)
    · match hparse : parse s.cfg B with
      | .ok (.telemetry rec) =>
        rw [hparse] at hretained
        exact .inr (.inr ⟨B, _, rec, rfl, exec_decParse_of_parse_ok hparse, rfl, hretained⟩)
      | .ok (.writeAck w) => rw [hparse] at hretained; exact .inl hretained
      | .err e => rw [hparse] at hretained; exact .inl hretained
  case notified =>
    rw [exec_dspNotify, parse_eq_ok_of_exec_decParse hp hrec] at hexec
    obtain rfl := Host.Outcome.next.inj hexec
    rfl
  case cleared =>
    obtain rfl := ret_next hexec
    rfl
  case unread =>
    rcases exec_setRecord i s r with h | h
    · exact ⟨t, h.trans hexec, rfl⟩
    · exact ⟨t.setRecord r, h.trans (by rw [hexec]; rfl), rfl⟩

/-! ## The interval and the action of a timer that is not armed -/

/-- Other values in the two registers that are unspecified at reset (R23, R25). -/
def withUnspecified (n : Nat) (f : OnFire) (s : State) : State :=
  { s with psInterval := n, psOnfire := f }

theorem unseen_withUnspecified (n : Nat) (f : OnFire) : Unseen (withUnspecified n f) :=
  ⟨fun _ => rfl, fun _ => rfl, fun _ _ => rfl, fun _ _ => rfl⟩

/-- The operation would arm the timer: a PS.START outside Stopped (R201), or DSP.READY with the
default slot (R231). -/
def Starts (i : Instr) (s : State) : Prop :=
  (∃ m g, i = .psStart m g ∧ s.psState ≠ .Stopped) ∨ (i = .dspReady ∧ s.slotConnected = .Default)

/-- Arming writes both registers. -/
theorem exec_withUnspecified_of_starts {i : Instr} {s : State} (n : Nat) (f : OnFire)
    (h : Starts i s) : exec i (withUnspecified n f s) = exec i s := by
  rcases h with ⟨m, g, rfl, hne⟩ | ⟨rfl, hslot⟩
  · by_cases hlt : m < 1
    · rw [exec_psStart_of_lt_one g _ hlt, exec_psStart_of_lt_one g _ hlt]
    · have hinterval : 1 ≤ m := Int.not_lt.mp hlt
      rw [exec_psStart_of_ne_stopped g hinterval hne,
        exec_psStart_of_ne_stopped (s := withUnspecified n f s) g hinterval hne]
      rfl
  · rw [exec_dspReady_of_default hslot,
      exec_dspReady_of_default (s := withUnspecified n f s) hslot]
    rfl

/-- Only a fire reads the two registers, and none is enabled outside Armed (R205, R206). -/
theorem exec_withUnspecified_of_not_starts {i : Instr} {s : State} (n : Nat) (f : OnFire)
    (hne : s.psState ≠ .Armed) (h : ¬ Starts i s) :
    exec i (withUnspecified n f s) = mapNext (withUnspecified n f) (exec i s) := by
  cases i with
  | psStart m g =>
    have hstopped : s.psState = .Stopped := by
      by_contra hstate
      exact h (.inl ⟨m, g, rfl, hstate⟩)
    by_cases hlt : m < 1
    · rw [exec_psStart_of_lt_one g _ hlt, exec_psStart_of_lt_one g _ hlt]
      rfl
    · have hinterval : 1 ≤ m := Int.not_lt.mp hlt
      rw [exec_psStart_of_stopped g hinterval hstopped,
        exec_psStart_of_stopped (s := withUnspecified n f s) g hinterval hstopped]
      rfl
  | psFire =>
    have hdisabled : ¬ fireEnabled s = true := fun henabled =>
      hne (fireEnabled_eq_true_iff.mp henabled).1
    rw [exec_psFire_refused_of_not_fireEnabled hdisabled,
      exec_psFire_refused_of_not_fireEnabled (s := withUnspecified n f s) hdisabled]
    rfl
  | psStop => rfl
  | tick => rfl
  | dspReady =>
    cases hslot : s.slotConnected
    · exact absurd (.inr ⟨rfl, hslot⟩) h
    · rw [exec_dspReady_of_custom hslot,
        exec_dspReady_of_custom (s := withUnspecified n f s) hslot]
      rfl
  | dspNotify buf =>
    rw [exec_dspNotify, exec_dspNotify]
    rfl
  | dspDisconnect => rfl
  | _ => exact exec_unseen_of_not_writesRegister (unseen_withUnspecified n f) s rfl

/-- The timer gets armed by an operation that starts it, and by no other. -/
theorem starts_of_exec {i : Instr} {s t : State} (hne : s.psState ≠ .Armed)
    (hexec : exec i s = .next t) (harmed : t.psState = .Armed) : Starts i s := by
  rcases exec_next_cases hexec with ⟨r, rfl⟩ | ⟨frame, r, rfl, -⟩ | ⟨m, g, hi, -, hstate, -⟩ |
    ⟨-, henabled, -⟩ | ⟨-, henabled, -⟩ | ⟨-, rfl⟩ | ⟨-, rfl⟩ | ⟨-, -, rfl⟩ | ⟨hi, hslot, -⟩ |
    ⟨buf, -, rfl⟩ | ⟨-, rfl⟩
  · exact absurd harmed hne
  · exact absurd harmed hne
  · exact .inl ⟨m, g, hi, hstate⟩
  · exact absurd (fireEnabled_eq_true_iff.mp henabled).1 hne
  · exact absurd (fireEnabled_eq_true_iff.mp henabled).1 hne
  · exact nomatch harmed
  · exact absurd harmed hne
  · exact absurd harmed hne
  · exact .inr ⟨hi, hslot⟩
  · rw [deliver_eq] at harmed
    exact absurd harmed hne
  · exact nomatch harmed

/-- Settles O51: by whether the operation arms the timer. -/
theorem unspecifiedRegistersUnread : Obligations.UnspecifiedRegistersUnread := by
  intro i s n f hne
  by_cases hstarts : Starts i s
  · have heq := exec_withUnspecified_of_starts n f hstarts
    exact ⟨fun t hexec => ⟨t, heq.trans hexec, rfl, fun _ => rfl⟩, fun r hexec => heq.trans hexec⟩
  · have hmap := exec_withUnspecified_of_not_starts n f hne hstarts
    refine ⟨fun t hexec => ⟨withUnspecified n f t, hmap.trans (by rw [hexec]; rfl), rfl,
      fun harmed => absurd (starts_of_exec hne hexec harmed) hstarts⟩,
      fun r hexec => hmap.trans (by rw [hexec]; rfl)⟩

end Sys2Proof.Proofs.NonInterference
end
